-- ==== Sys2Proof/Word.lean ====
section
/-! DEFINITION. Bytes and the byte arrays of the ports (10_state.md R21, R22). Header bytes are numbered
1 to 5 and payload bytes 0 to 7 (00_scope.md R12). -/

namespace Sys2Proof

/-- A byte, bit 7 the most significant (20_memory.md R52). -/
abbrev Byte := BitVec 8

/-- The four identifier bytes, header bytes 1 to 4 (R12). -/
@[ext]
structure IdBytes where
  h1 : Byte
  h2 : Byte
  h3 : Byte
  h4 : Byte
  deriving DecidableEq, Repr

/-- The 5-byte header: the identifier bytes and the DLC byte `h5` (R12). -/
@[ext]
structure Header where
  ident : IdBytes
  h5    : Byte
  deriving DecidableEq, Repr

/-- Eight payload bytes, byte 0 first in the frame (R12, 20_memory.md R53). -/
@[ext]
structure Payload where
  b0 : Byte
  b1 : Byte
  b2 : Byte
  b3 : Byte
  b4 : Byte
  b5 : Byte
  b6 : Byte
  b7 : Byte
  deriving DecidableEq, Repr

/-- All bytes zero. -/
def IdBytes.zero : IdBytes := ⟨0, 0, 0, 0⟩

/-- All bytes zero. -/
def Header.zero : Header := ⟨IdBytes.zero, 0⟩

/-- All bytes zero. -/
def Payload.zero : Payload := ⟨0, 0, 0, 0, 0, 0, 0, 0⟩

/-- Payload byte `i`. -/
def Payload.lane (p : Payload) : Fin 8 → Byte
  | 0 => p.b0
  | 1 => p.b1
  | 2 => p.b2
  | 3 => p.b3
  | 4 => p.b4
  | 5 => p.b5
  | 6 => p.b6
  | 7 => p.b7

/-- The payload whose byte `i` is `f i`. -/
def Payload.ofLanes (f : Fin 8 → Byte) : Payload :=
  ⟨f 0, f 1, f 2, f 3, f 4, f 5, f 6, f 7⟩

end Sys2Proof
end

