-- ==== Sys2Proof/Syntax.lean ====
section
/-! DEFINITION. What the host presents to the block: the command as the ports carry it (30_encoding.md
R60), the values of all input ports at one edge (10_state.md R21), the commands themselves (one constructor
per row of spec/opcode_table.json), the same ports before their widths are known (60_exceptions.md R160),
and the lines of the text form (30_encoding.md R69). -/

namespace Sys2Proof

/-- The op field and every operand port, with the widths of R21. It is also the record `pend` holds
(10_state.md R26), whose fields have the same names and widths. -/
structure Command where
  op   : BitVec 3
  kbps : BitVec 16
  osc  : BitVec 8
  sjw  : BitVec 8
  id   : BitVec 32
  ext  : BitVec 1
  rtr  : BitVec 1
  dlc  : BitVec 4
  data : Payload
  hdr  : Header
  pay  : Payload
  deriving DecidableEq, Repr

/-- Every port 0: the reset value of `pend` (R40). -/
def Command.zero : Command where
  op := 0
  kbps := 0
  osc := 0
  sjw := 0
  id := 0
  ext := 0
  rtr := 0
  dlc := 0
  data := Payload.zero
  hdr := Header.zero
  pay := Payload.zero

/-- The value of every input port of R21 at one rising edge; `clk` is the edge itself. -/
structure Ports where
  rst      : Bool
  cmdValid : Bool
  cmd      : Command
  deriving DecidableEq, Repr

/-- A host that offers nothing: no reset, no command (log 1). -/
def Ports.idle : Ports := ⟨false, false, Command.zero⟩

/-- The commands of the block (R11, R61), each with the operands it reads and no others (R62 to R65).
One constructor per row of spec/opcode_table.json. -/
inductive Instr where
  /-- CALC, `0b000` (R80). -/
  | calcTiming (kbps : BitVec 16) (osc sjw : BitVec 8)
  /-- PACKID, `0b001` (R100). -/
  | packid (id : BitVec 32) (ext : BitVec 1)
  /-- UNPACKID, `0b010` (R104). -/
  | unpackid (hdr : IdBytes)
  /-- ENCODE, `0b011` (R120). -/
  | encode (id : BitVec 32) (ext rtr : BitVec 1) (dlc : BitVec 4) (data : Payload)
  /-- DECODE, `0b100` (R126). -/
  | decode (hdr : Header) (pay : Payload)
  /-- The reserved op `0b101` (R66). -/
  | rsvd101
  /-- The reserved ops `0b110` and `0b111` (R66); `x` is bit 0 of the op. -/
  | rsvd11x (x : BitVec 1)
  deriving DecidableEq, Repr

/-! ## Ports whose width is not yet known (R160, 93_implementation_defined.md U11) -/

/-- The input ports of R21, by name. -/
inductive Port where
  | rst | cmdValid | cmdOp | kbps | osc | sjw | id | ext | rtr | dlc | data | hdr | pay
  deriving DecidableEq, Repr

/-- A number on some count of wires. -/
structure Wire where
  width : Nat
  value : Nat
  deriving DecidableEq, Repr

/-- All input ports as some interface presents them, with whatever widths and whatever counts of bytes. -/
structure RawPorts where
  rst      : Wire
  cmdValid : Wire
  op       : Wire
  kbps     : Wire
  osc      : Wire
  sjw      : Wire
  id       : Wire
  ext      : Wire
  rtr      : Wire
  dlc      : Wire
  data     : List Wire
  hdr      : List Wire
  pay      : List Wire
  deriving DecidableEq, Repr

/-! ## The text form (R69) -/

/-- The mnemonics of the text form. `RSVD` stands for the three reserved ops (R69, R71). -/
inductive Mnemonic where
  | calcTiming | packid | unpackid | encode | decode | rsvd
  deriving DecidableEq, Repr

/-- The operand names of the text form (R69). -/
inductive OperandName where
  | kbps | osc | sjw | id | ext | rtr | dlc | data | hdr | pay | op
  deriving DecidableEq, Repr

/-- A value of the text form: a number, or a list of bytes (R69). -/
inductive Arg where
  | num (n : Nat)
  | bytes (l : List Nat)
  deriving DecidableEq, Repr

/-- One line of the text form: a mnemonic, then `name=value` operands in any order (R69). -/
structure TextLine where
  mnemonic : Mnemonic
  operands : List (OperandName × Arg)
  deriving DecidableEq, Repr

end Sys2Proof
end

