-- ==== Sys2Proof/WellFormed.lean ====
section
/-! DEFINITION. Which forms the spec defines. A value of type `Instr`, `Command` or `Ports` carries the
port widths of 10_state.md R21 in its type, and no operand value makes a command illegal (30_encoding.md
R68), so each of them is well formed. What can be ill formed is an interface of other widths (60_exceptions.md
R160, 93_implementation_defined.md U11) and a line of the text form (30_encoding.md R69). -/

namespace Sys2Proof

/-- The wire has the width `w`, and its number is one that `w` wires carry. -/
def Wire.fits (w : Nat) (x : Wire) : Bool := x.width == w && decide (x.value < 2 ^ w)

/-- The port is `n` bytes. -/
def bytesFit (n : Nat) (l : List Wire) : Bool := l.length == n && l.all (Wire.fits 8)

/-- Every port has the width of R21. -/
def RawPorts.wellFormed (r : RawPorts) : Bool :=
  Wire.fits 1 r.rst && Wire.fits 1 r.cmdValid && Wire.fits 3 r.op && Wire.fits 16 r.kbps &&
  Wire.fits 8 r.osc && Wire.fits 8 r.sjw && Wire.fits 32 r.id && Wire.fits 1 r.ext &&
  Wire.fits 1 r.rtr && Wire.fits 4 r.dlc && bytesFit 8 r.data && bytesFit 5 r.hdr && bytesFit 8 r.pay

/-- The value lies in the range R69 gives the operand. A list may be shorter than its port (R70). -/
def Arg.fits : OperandName → Arg → Bool
  | .kbps, .num n => decide (n < 2 ^ 16)
  | .osc, .num n => decide (n < 2 ^ 8)
  | .sjw, .num n => decide (n < 2 ^ 8)
  | .id, .num n => decide (n < 2 ^ 32)
  | .ext, .num n => decide (n < 2)
  | .rtr, .num n => decide (n < 2)
  | .dlc, .num n => decide (n < 2 ^ 4)
  | .op, .num n => decide (5 ≤ n ∧ n ≤ 7)
  | .data, .bytes l => decide (l.length ≤ 8) && l.all (decide <| · < 2 ^ 8)
  | .hdr, .bytes l => decide (l.length ≤ 5) && l.all (decide <| · < 2 ^ 8)
  | .pay, .bytes l => decide (l.length ≤ 8) && l.all (decide <| · < 2 ^ 8)
  | _, _ => false

/-- `op` names a reserved op, so it belongs to `RSVD` alone, and `RSVD` needs it (R69, R71; log 11). -/
def TextLine.opPlaced (t : TextLine) : Bool :=
  (t.mnemonic == .rsvd) == (t.operands.map Prod.fst).contains .op

/-- Each operand at most once, each value in range, `op` where it belongs (R69; log 11). -/
def TextLine.wellFormed (t : TextLine) : Bool :=
  decide (t.operands.map Prod.fst).Nodup && t.operands.all (fun a => Arg.fits a.1 a.2) && t.opPlaced

end Sys2Proof
end

