-- ==== Sys2Proof/Decode.lean ====
section
/-! DEFINITION. The op map of 30_encoding.md R61: decoding a command, total on every value of `cmd_op`
(R67), and the encoder written from the same map. A command's words are the op field and the operand
ports (R72). Then two other shapes of the same command: its ports flattened into one number (20_memory.md
R54, log 9), and ports whose widths are checked, rejected by name (60_exceptions.md R160). -/

namespace Sys2Proof

/-! ## The op map (R61) -/

/-- R61. -/
def opCalc : BitVec 3 := 0b000
/-- R61. -/
def opPackid : BitVec 3 := 0b001
/-- R61. -/
def opUnpackid : BitVec 3 := 0b010
/-- R61. -/
def opEncode : BitVec 3 := 0b011
/-- R61. -/
def opDecode : BitVec 3 := 0b100
/-- The row RSVD_101 (R61, R66). -/
def opRsvd101 : BitVec 3 := 0b101
/-- The row RSVD_11x: bits 2 and 1 are set, bit 0 is `x` (R61, R66). -/
def opRsvd11x (x : BitVec 1) : BitVec 3 := 0b11#2 ++ x

/-- A row of spec/opcode_table.json: the op bits it fixes, and their values. -/
structure OpRow where
  name    : String
  mask    : BitVec 3
  pattern : BitVec 3
  deriving DecidableEq, Repr

/-- spec/opcode_table.json, row for row. -/
def opTable : List OpRow :=
  [⟨"CALC", 0b111, 0b000⟩, ⟨"PACKID", 0b111, 0b001⟩, ⟨"UNPACKID", 0b111, 0b010⟩,
   ⟨"ENCODE", 0b111, 0b011⟩, ⟨"DECODE", 0b111, 0b100⟩, ⟨"RSVD_101", 0b111, 0b101⟩,
   ⟨"RSVD_11x", 0b110, 0b110⟩]

/-- The row covers the op. -/
def OpRow.covers (r : OpRow) (op : BitVec 3) : Bool := op &&& r.mask == r.pattern

/-- The name of an instruction's row. -/
def Instr.rowName : Instr → String
  | .calcTiming .. => "CALC"
  | .packid .. => "PACKID"
  | .unpackid .. => "UNPACKID"
  | .encode .. => "ENCODE"
  | .decode .. => "DECODE"
  | .rsvd101 => "RSVD_101"
  | .rsvd11x _ => "RSVD_11x"

/-- The value of `cmd_op` of an instruction (R61). -/
def Instr.op : Instr → BitVec 3
  | .calcTiming .. => opCalc
  | .packid .. => opPackid
  | .unpackid .. => opUnpackid
  | .encode .. => opEncode
  | .decode .. => opDecode
  | .rsvd101 => opRsvd101
  | .rsvd11x x => opRsvd11x x

/-- Which command the ports hold: `cmd_op` alone tells (R60, R61), and the command takes the operands
R62 to R64 list for it and no others (R65). -/
def decode (c : Command) : Instr :=
  if c.op = opCalc then .calcTiming c.kbps c.osc c.sjw
  else if c.op = opPackid then .packid c.id c.ext
  else if c.op = opUnpackid then .unpackid c.hdr.ident
  else if c.op = opEncode then .encode c.id c.ext c.rtr c.dlc c.data
  else if c.op = opDecode then .decode c.hdr c.pay
  else if c.op = opRsvd101 then .rsvd101
  else .rsvd11x (c.op.extractLsb' 0 1)

/-- The ports carrying `i`: the op field and the operands `i` reads (R72), every other port as in
`rest`, whose values have no effect (R65). -/
def encodeOnto (rest : Command) (i : Instr) : Command :=
  match i with
  | .calcTiming kbps osc sjw => { rest with op := i.op, kbps := kbps, osc := osc, sjw := sjw }
  | .packid id ext => { rest with op := i.op, id := id, ext := ext }
  | .unpackid hdr => { rest with op := i.op, hdr := ⟨hdr, rest.hdr.h5⟩ }
  | .encode id ext rtr dlc data =>
      { rest with op := i.op, id := id, ext := ext, rtr := rtr, dlc := dlc, data := data }
  | .decode hdr pay => { rest with op := i.op, hdr := hdr, pay := pay }
  | .rsvd101 => { rest with op := i.op }
  | .rsvd11x _ => { rest with op := i.op }

/-- The ports carrying `i`, every port it does not read at 0. -/
def encode (i : Instr) : Command := encodeOnto Command.zero i

/-! ## Flattened ports (R54, log 9) -/

/-- The payload as one vector, byte 0 most significant (R54). -/
def Payload.flat (p : Payload) : BitVec 64 :=
  p.b0 ++ p.b1 ++ p.b2 ++ p.b3 ++ p.b4 ++ p.b5 ++ p.b6 ++ p.b7

/-- The payload a vector holds, byte 0 most significant (R54). -/
def Payload.ofFlat (v : BitVec 64) : Payload :=
  ⟨v.extractLsb' 56 8, v.extractLsb' 48 8, v.extractLsb' 40 8, v.extractLsb' 32 8,
   v.extractLsb' 24 8, v.extractLsb' 16 8, v.extractLsb' 8 8, v.extractLsb' 0 8⟩

/-- The header as one vector, byte 1 in bits 39:32 and byte 5 in bits 7:0 (R54). -/
def Header.flat (h : Header) : BitVec 40 :=
  h.ident.h1 ++ h.ident.h2 ++ h.ident.h3 ++ h.ident.h4 ++ h.h5

/-- The header a vector holds (R54). -/
def Header.ofFlat (v : BitVec 40) : Header :=
  ⟨⟨v.extractLsb' 32 8, v.extractLsb' 24 8, v.extractLsb' 16 8, v.extractLsb' 8 8⟩,
   v.extractLsb' 0 8⟩

/-- All ports of a command as one number: the op field in bits 2:0, then the operand ports upward in the
order of R26. The order is the model's (log 9); each byte array is flattened as R54 says. -/
def Command.toWord (c : Command) : BitVec 241 :=
  c.pay.flat ++ c.hdr.flat ++ c.data.flat ++ c.dlc ++ c.rtr ++ c.ext ++ c.id ++ c.sjw ++ c.osc ++
    c.kbps ++ c.op

/-- The command one number holds (log 9). -/
def Command.ofWord (w : BitVec 241) : Command where
  op := w.extractLsb' 0 3
  kbps := w.extractLsb' 3 16
  osc := w.extractLsb' 19 8
  sjw := w.extractLsb' 27 8
  id := w.extractLsb' 35 32
  ext := w.extractLsb' 67 1
  rtr := w.extractLsb' 68 1
  dlc := w.extractLsb' 69 4
  data := Payload.ofFlat (w.extractLsb' 73 64)
  hdr := Header.ofFlat (w.extractLsb' 137 40)
  pay := Payload.ofFlat (w.extractLsb' 177 64)

/-- The command whose first `nbits` bits are those of `w`, all the others 0 (log 9). -/
def tableCommand (nbits w : Nat) : Command := Command.ofWord (BitVec.ofNat 241 (w % 2 ^ nbits))

/-- The instruction read from `w`, numbered as spec/opcode_table.json numbers it: the op in bits 2:0, and
above it the operand ports of log 9. A number of more bits than were given, or than a command has, is no
command (R160). -/
def decodeTableWord (nbits w : Nat) : Option Instr :=
  if w < 2 ^ nbits ∧ w < 2 ^ 241 then some (decode (tableCommand nbits w)) else none

/-! ## Ports whose widths are checked (R160, 93_implementation_defined.md U11) -/

/-- Why an interface form is rejected. -/
inductive FormError where
  /-- The port has not the width of R21. -/
  | wrongWidth (p : Port)
  /-- The number does not fit on the port. -/
  | tooLarge (p : Port)
  /-- The port is not the number of bytes of R21. -/
  | wrongCount (p : Port)
  deriving DecidableEq, Repr

/-- The value on a port of `w` wires, rejected if the width or the number is another. -/
def Wire.read (p : Port) (w : Nat) (x : Wire) : Except FormError (BitVec w) :=
  if x.width = w then
    if x.value < 2 ^ w then .ok (BitVec.ofNat w x.value) else .error (.tooLarge p)
  else .error (.wrongWidth p)

/-- The eight bytes on a payload port. -/
def readPayload (p : Port) : List Wire → Except FormError Payload
  | [a, b, c, d, e, f, g, h] => do
      return ⟨← a.read p 8, ← b.read p 8, ← c.read p 8, ← d.read p 8,
              ← e.read p 8, ← f.read p 8, ← g.read p 8, ← h.read p 8⟩
  | _ => .error (.wrongCount p)

/-- The five bytes on a header port. -/
def readHeader (p : Port) : List Wire → Except FormError Header
  | [a, b, c, d, e] => do
      return ⟨⟨← a.read p 8, ← b.read p 8, ← c.read p 8, ← d.read p 8⟩, ← e.read p 8⟩
  | _ => .error (.wrongCount p)

/-- The port values of R21, if the interface has the form R21 gives; any other is rejected by name. -/
def RawPorts.connect (r : RawPorts) : Except FormError Ports := do
  let rst ← r.rst.read .rst 1
  let valid ← r.cmdValid.read .cmdValid 1
  let op ← r.op.read .cmdOp 3
  let kbps ← r.kbps.read .kbps 16
  let osc ← r.osc.read .osc 8
  let sjw ← r.sjw.read .sjw 8
  let id ← r.id.read .id 32
  let ext ← r.ext.read .ext 1
  let rtr ← r.rtr.read .rtr 1
  let dlc ← r.dlc.read .dlc 4
  let data ← readPayload .data r.data
  let hdr ← readHeader .hdr r.hdr
  let pay ← readPayload .pay r.pay
  return ⟨rst == 1, valid == 1, ⟨op, kbps, osc, sjw, id, ext, rtr, dlc, data, hdr, pay⟩⟩

end Sys2Proof
end

