-- ==== Sys2Proof/Config.lean ====
section
/-! DEFINITION. The one open parameter of the block (00_scope.md R8) and the free values: what the spec
leaves unspecified (93_implementation_defined.md U1, U2, U3, U5). Every constant here without a body is
opaque: no proof can learn a value of it, so a claim holds whatever it is. -/

namespace Sys2Proof.Config

/-- `MAX_LATENCY` less one. R8 asks only that `MAX_LATENCY` is at least 1 (log 2). -/
opaque maxLatencyLessOne : Nat

/-- `MAX_LATENCY`, the one open parameter of the block (R8). -/
def maxLatency : Nat := maxLatencyLessOne + 1

/-- Free value: the latency draw taken at a rising edge, before it is brought into the range of R37.
The argument is the number of the edge, never the op or an operand (R37; log 3). -/
opaque freeLatency : Nat → Nat

/-- Free value: one unspecified payload byte (42_frame_codec.md R124, R129), for the edge that completes
the command and the lane of the payload (log 5). -/
opaque freeByte : Nat → Nat → BitVec 8

/-- Free value: what an output port shows while `rsp_valid = 0` (10_state.md R41), and before the
first reset edge (70_reset_and_hazards.md R173, log 15), for the number of
the last edge, the number of the reading since then, and the number of the port (log 6). -/
opaque freePort : Nat → Nat → Nat → Nat

end Sys2Proof.Config
end

