-- ==== Sys2Proof/Machine/State.lean ====
section
/-! DEFINITION. The state of the block: the elements of 10_state.md R23, each group a record, and three
fields of the model's own (`inputs`, `edge`, `live`). Reset is R40. The block has no memory, so State
holds none (20_memory.md R50). -/

namespace Sys2Proof.Machine

/-- The timing result group TR (R29). Every field is a plain count (R88). -/
@[ext]
structure TimingResult where
  brp    : BitVec 3
  prseg  : BitVec 4
  phseg1 : BitVec 4
  phseg2 : BitVec 4
  sjw    : BitVec 3
  bt     : BitVec 5
  deriving DecidableEq, Repr

/-- The header result group HR (R30). -/
@[ext]
structure HeaderResult where
  hdr    : Header
  pay    : Payload
  nbytes : BitVec 4
  deriving DecidableEq, Repr

/-- The frame result group FR (R31). -/
structure FrameResult where
  id   : BitVec 29
  ext  : BitVec 1
  rtr  : BitVec 1
  dlc  : BitVec 4
  data : Payload
  deriving DecidableEq, Repr

/-- The state. The first nine fields are the elements of R23. -/
@[ext]
structure State where
  /-- `busy` (R24). -/
  busy     : Bool
  /-- `rsp_valid` (R25). -/
  rspValid : Bool
  /-- `pend`, the command latch (R26). -/
  pend     : Command
  /-- `wait`, the edges left of the latency draw (R37). -/
  wait     : Nat
  /-- `status`, the status code of the last completed command (R27). -/
  status   : BitVec 3
  /-- `rsp_op`, the op of the last completed command (R28). -/
  rspOp    : BitVec 3
  /-- The group TR (R29). -/
  tr       : TimingResult
  /-- The group HR (R30). -/
  hr       : HeaderResult
  /-- The group FR (R31). -/
  fr       : FrameResult
  /-- The model's own: the input port values at the coming edges, earliest first (log 1). -/
  inputs   : List Ports
  /-- The model's own: how many rising edges were taken, the index of the free values (log 4). -/
  edge     : Nat
  /-- The model's own: a reset edge has happened since power-up (R173, log 7). -/
  live     : Bool
  deriving DecidableEq, Repr

/-- A step of the block never faults: every error is a status code of an ordinary completion
(60_exceptions.md R154, R160). The type has no value. -/
inductive Fault : Type
  deriving DecidableEq, Repr

/-- Why the model gives no step. -/
inductive Refusal where
  /-- An instruction without a meaning. No arm of `exec` raises it: every row has its meaning. Safe. -/
  | notModelled (mnemonic : String)
  /-- Raised by an edge with `rst = 0` before the first reset edge: every state element is unspecified
  then, and so is the block's behaviour (70_reset_and_hazards.md R173; 93_implementation_defined.md U4
  says to refuse). Safe (log 7). -/
  | beforeFirstReset
  deriving DecidableEq, Repr

/-- Reset value of TR (R40). -/
def TimingResult.reset : TimingResult := ⟨0, 0, 0, 0, 0, 0⟩

/-- Reset value of HR (R40). -/
def HeaderResult.reset : HeaderResult := ⟨Header.zero, Payload.zero, 0⟩

/-- Reset value of FR (R40). -/
def FrameResult.reset : FrameResult := ⟨0, 0, 0, 0, Payload.zero⟩

/-- The state after a reset edge (R40), with a host that drives nothing (log 1), the edges counted
from 0 (log 4), and the reset edge behind it (log 7). -/
def State.reset : State where
  busy := false
  rspValid := false
  pend := Command.zero
  wait := 0
  status := 0
  rspOp := 0
  tr := TimingResult.reset
  hr := HeaderResult.reset
  fr := FrameResult.reset
  inputs := []
  edge := 0
  live := true

end Sys2Proof.Machine
end

