-- ==== Sys2Proof/Machine/Flags.lean ====
section
/-! DEFINITION. Status codes (60_exceptions.md R150) and the answer of a pure function (00_scope.md R10).
The status code is the only outcome indicator: the block has no condition flags (10_state.md R43). -/

namespace Sys2Proof.Machine

/-- The status codes that a completion can produce (R150, R151). -/
inductive Status where
  | ok | timingInfeasible | idRange | dlcRange | illegalOp
  deriving DecidableEq, Repr

/-- The 3-bit code of a status (R150). `0b100` to `0b110` are reserved and never produced. -/
def Status.code : Status → BitVec 3
  | .ok => 0b000
  | .timingInfeasible => 0b001
  | .idRange => 0b010
  | .dlcRange => 0b011
  | .illegalOp => 0b111

/-- How a pure function ends (R10): `return OK(...)` with its results, or `raise <Status>`. -/
inductive Reply (α : Type) where
  | ok (results : α)
  | raise (st : Status)
  deriving DecidableEq, Repr

/-- The status a reply is reported with. -/
def Reply.status {α : Type} : Reply α → Status
  | .ok _ => .ok
  | .raise st => st

end Sys2Proof.Machine
end

