-- ==== Sys2Proof/Machine/Operands.lean ====
section
/-! DEFINITION. Operand values and range checks shared by the commands: unsigned reading at full width
(30_encoding.md R62), clamping (00_scope.md R9), the identifier and length ranges (41_identifier_packer.md
R103, 42_frame_codec.md R120, R128), and the payload lanes with their unspecified part (R124, R129). -/

namespace Sys2Proof.Machine

/-- An operand, unsigned and at its full width (R62). -/
abbrev unsigned {w : Nat} (v : BitVec w) : Nat := v.toNat

/-- `clamp(v, lo, hi)` of R9. -/
def clamp (v lo hi : Nat) : Nat := min (max v lo) hi

/-- The identifier fits the width `ext` selects (R103). -/
def idInRange (id : BitVec 32) (ext : BitVec 1) : Bool :=
  if ext = 0 then decide (unsigned id ≤ 0x7FF) else decide (unsigned id ≤ 0x1FFFFFFF)

/-- The length is 0 to 8 (R120, R128). -/
def dlcInRange (dlc : BitVec 4) : Bool := decide (unsigned dlc ≤ 8)

/-- The first `dlc` lanes of `src`, in order; every other lane is a free byte (R122, R124, R127, R129). -/
def carriedLanes (dlc : BitVec 4) (src : Payload) (free : Fin 8 → Byte) : Payload :=
  Payload.ofLanes (fun i => if i.val < unsigned dlc then src.lane i else free i)

/-- The free bytes of a completion in state `s`: one per lane, drawn for this edge (log 5). -/
def State.freeLanes (s : State) (i : Fin 8) : Byte := Config.freeByte s.edge i.val

end Sys2Proof.Machine
end

