-- ==== Sys2Proof/Machine/Ops.lean ====
section
/-! DEFINITION. The named operations on the state: one per case of the step relation (10_state.md R35 to
R40), and the writes of the result groups (R34). The block takes no exception: a command that errs
completes by the same operation as one that does not (60_exceptions.md R154, R155). -/

namespace Sys2Proof.Machine

/-- The input port values at the coming edge. A host that drives nothing more is idle (log 1). -/
def State.portsNow (s : State) : Ports := s.inputs.headD Ports.idle

/-- The edge is taken: its inputs are used up and the count moves on. No element of R23 changes. -/
def State.tick (s : State) : State := { s with inputs := s.inputs.tail, edge := s.edge + 1 }

/-- Reset (R40, R170): every element of R23 takes its reset value. What the host drives and the count of
edges are no elements of the block, so they stay (logs 1 and 4). -/
def State.toReset (s : State) : State :=
  { State.reset with inputs := s.inputs, edge := s.edge }

/-- The latency draw of this edge, in 1..`MAX_LATENCY` (R8, R37; log 3). -/
def State.latencyDraw (s : State) : Nat := Config.freeLatency s.edge % Config.maxLatency + 1

/-- Accept (R36). -/
def State.accept (c : Command) (s : State) : State :=
  { s with pend := c, busy := true, rspValid := false, wait := s.latencyDraw }

/-- Wait (R37, the case of more than one edge left). -/
def State.countDown (s : State) : State := { s with wait := s.wait - 1 }

/-- Complete (R38): everything a completion writes but the result group. -/
def State.complete (op : BitVec 3) (st : Status) (s : State) : State :=
  { s with status := st.code, rspOp := op, busy := false, rspValid := true, wait := 0 }

/-- A whole completion: the status, and on `OK` alone the group (R34, R38, R154). -/
def conclude {α : Type} (op : BitVec 3) (r : Reply α) (write : α → State → State) (s : State) : State :=
  match r with
  | .ok res => write res (s.complete op .ok)
  | .raise st => s.complete op st

/-- CALC writes the whole of TR (R29, R88). -/
def State.writeTiming (r : TimingResult) (s : State) : State := { s with tr := r }

/-- PACKID writes `hr_hdr[1..4]` alone (R30). -/
def State.writeIdBytes (h : IdBytes) (s : State) : State :=
  { s with hr := { s.hr with hdr := ⟨h, s.hr.hdr.h5⟩ } }

/-- ENCODE writes the whole of HR (R30). -/
def State.writeHeader (r : HeaderResult) (s : State) : State := { s with hr := r }

/-- UNPACKID writes `fr_id` and `fr_ext` alone (R31). -/
def State.writeIdent (r : BitVec 29 × BitVec 1) (s : State) : State :=
  { s with fr := { s.fr with id := r.1, ext := r.2 } }

/-- DECODE writes the whole of FR (R31). -/
def State.writeFrame (r : FrameResult) (s : State) : State := { s with fr := r }

end Sys2Proof.Machine
end

