-- ==== Sys2Proof/Machine/Calc.lean ====
section
/-! DEFINITION. TCALC, the bit-timing calculator (40_timing_calculator.md R80). Arithmetic is exact, on
mathematical integers (R83, 00_scope.md R9); only an accepted result is narrowed to the ports of TR. -/

namespace Sys2Proof.Machine

/-- The clamped SJW (R81). -/
def clampSjw (sjwIn : Nat) : Nat := clamp sjwIn 1 4

/-- The bit time in quanta at a prescaler, if it is an exact integer of at most 25 (R83, R84). -/
def quantaAt (kbps osc brp : Nat) : Option Nat :=
  let num := 500 * osc
  let den := (brp + 1) * kbps
  if num % den = 0 ∧ num / den ≤ 25 then some (num / den) else none

/-- The prescalers, in the order they are tried (R84, R94). -/
def prescalers : List Nat := [0, 1, 2, 3, 4, 5, 6, 7]

/-- The first prescaler with an exact bit time of at most 25, and that bit time (R84). -/
def firstFit (kbps osc : Nat) : Option (Nat × Nat) :=
  prescalers.findSome? (fun brp => (quantaAt kbps osc brp).map (brp, ·))

/-- The three segments of a bit time. -/
structure Segments where
  prseg  : Int
  phseg1 : Int
  phseg2 : Int
  deriving DecidableEq, Repr

/-- The sample point, `floor(7 * bt / 10)` (R85). -/
def samplePoint (bt : Nat) : Int := (7 * (bt : Int)) / 10

/-- The segments of a bit time, in signed arithmetic with the floor toward minus infinity (R85). -/
def segmentsOf (bt : Nat) : Segments :=
  let spt := samplePoint bt
  let prseg := (spt - 1) / 2
  let phseg1 := spt - prseg - 1
  ⟨prseg, phseg1, (bt : Int) - phseg1 - prseg - 1⟩

/-- Both validity checks, with the clamped SJW (R86). -/
def Segments.valid (g : Segments) (sjw : Nat) : Bool :=
  decide (g.prseg + g.phseg1 ≥ g.phseg2) && decide (g.phseg2 > (sjw : Int))

/-- An accepted configuration, exact (R80, R88). -/
structure TimingConfig where
  brp : Nat
  seg : Segments
  sjw : Nat
  bt  : Nat
  deriving DecidableEq, Repr

/-- The outcome at the chosen prescaler (R85, R86): no later prescaler is tried. -/
def judge (sjw brp bt : Nat) : Reply TimingConfig :=
  if (segmentsOf bt).valid sjw then .ok ⟨brp, segmentsOf bt, sjw, bt⟩ else .raise .timingInfeasible

/-- The pure function of CALC on exact integers (R80). -/
def calcExact (kbps osc sjwIn : Nat) : Reply TimingConfig :=
  if kbps = 0 ∨ osc = 0 then .raise .timingInfeasible
  else match firstFit kbps osc with
    | some (brp, bt) => judge (clampSjw sjwIn) brp bt
    | none => .raise .timingInfeasible

/-- The configuration on the ports of TR; by R87 every accepted one fits. -/
def TimingConfig.narrow (c : TimingConfig) : TimingResult where
  brp := BitVec.ofNat 3 c.brp
  prseg := BitVec.ofInt 4 c.seg.prseg
  phseg1 := BitVec.ofInt 4 c.seg.phseg1
  phseg2 := BitVec.ofInt 4 c.seg.phseg2
  sjw := BitVec.ofNat 3 c.sjw
  bt := BitVec.ofNat 5 c.bt

/-- The pure function of CALC (R80, R88), on the operands of R62. -/
def timingOf (kbps : BitVec 16) (osc sjwIn : BitVec 8) : Reply TimingResult :=
  match calcExact (unsigned kbps) (unsigned osc) (unsigned sjwIn) with
  | .ok c => .ok c.narrow
  | .raise st => .raise st

/-- CALC (R80). -/
def execCalc (kbps : BitVec 16) (osc sjw : BitVec 8) (s : State) : Host.Outcome State Fault Refusal :=
  .next (conclude opCalc (timingOf kbps osc sjw) State.writeTiming s)

/-! ## The other reading of a failed check (R90), beside the machine

The block does not do this; it is here so that R90's claim can be stated. -/

/-- The outcome if a prescaler whose segments fail were passed over and the next one tried. -/
def calcRetrying (kbps osc sjwIn : Nat) : Reply TimingConfig :=
  if kbps = 0 ∨ osc = 0 then .raise .timingInfeasible
  else match prescalers.findSome? (fun brp =>
      (quantaAt kbps osc brp).bind (fun bt =>
        if (segmentsOf bt).valid (clampSjw sjwIn) then some (brp, bt) else none)) with
    | some (brp, bt) => .ok ⟨brp, segmentsOf bt, clampSjw sjwIn, bt⟩
    | none => .raise .timingInfeasible

/-- `BTmin` of R90, the least bit time whose segments pass at a clamped SJW. -/
def btMin (sjw : Nat) : Nat :=
  if sjw ≤ 1 then 5 else if sjw = 2 then 7 else if sjw = 3 then 11 else 14

end Sys2Proof.Machine
end

