-- ==== Sys2Proof/Machine/IdPacker.lean ====
section
/-! DEFINITION. IDPK, the identifier packer (41_identifier_packer.md R100, R104). ENCODE and DECODE use the
same two functions (R108). -/

namespace Sys2Proof.Machine

/-- The four identifier bytes of an identifier in range: the layouts of R101 (`ext = 0`) and R102
(`ext = 1`), where EXIDE is bit 3 of `h2` (log 14). -/
def layoutId (id : BitVec 32) (ext : BitVec 1) : IdBytes :=
  if ext = 0 then
    { h1 := id.extractLsb' 3 8
      h2 := id.extractLsb' 0 3 ++ 0b00000#5
      h3 := 0
      h4 := 0 }
  else
    { h1 := id.extractLsb' 21 8
      h2 := id.extractLsb' 18 3 ++ 0b0#1 ++ 0b1#1 ++ 0b0#1 ++ id.extractLsb' 16 2
      h3 := id.extractLsb' 8 8
      h4 := id.extractLsb' 0 8 }

/-- The pure function of PACKID (R100), with the range check of R103. -/
def packId (id : BitVec 32) (ext : BitVec 1) : Reply IdBytes :=
  if idInRange id ext then .ok (layoutId id ext) else .raise .idRange

/-- The identifier and the EXIDE bit four header bytes hold (R104); the bits R105 lists are not read. -/
def readId (h : IdBytes) : BitVec 29 × BitVec 1 :=
  let ext := h.h2.extractLsb' 3 1
  if ext = 0 then
    ((h.h1 ++ h.h2.extractLsb' 5 3).setWidth 29, ext)
  else
    (h.h1 ++ h.h2.extractLsb' 5 3 ++ h.h2.extractLsb' 0 2 ++ h.h3 ++ h.h4, ext)

/-- The pure function of UNPACKID (R104): it never fails. -/
def unpackId (h : IdBytes) : Reply (BitVec 29 × BitVec 1) := .ok (readId h)

/-- Header bytes 1 to 4 with every bit R105 says is ignored cleared (R107). -/
def canonicalId (h : IdBytes) : IdBytes :=
  if h.h2.extractLsb' 3 1 = 0 then ⟨h.h1, h.h2 &&& 0xE0, 0, 0⟩ else ⟨h.h1, h.h2 &&& 0xEB, h.h3, h.h4⟩

/-- PACKID (R100). -/
def execPackid (id : BitVec 32) (ext : BitVec 1) (s : State) : Host.Outcome State Fault Refusal :=
  .next (conclude opPackid (packId id ext) State.writeIdBytes s)

/-- UNPACKID (R104). -/
def execUnpackid (hdr : IdBytes) (s : State) : Host.Outcome State Fault Refusal :=
  .next (conclude opUnpackid (unpackId hdr) State.writeIdent s)

end Sys2Proof.Machine
end

