-- ==== Sys2Proof/Machine/FrameCodec.lean ====
section
/-! DEFINITION. FCODEC, the frame codec (42_frame_codec.md R120, R126). -/

namespace Sys2Proof.Machine

/-- The DLC byte: RTR in bit 6, the length in bits 3:0, bits 7, 5 and 4 zero (R121, log 14). -/
def dlcByte (rtr : BitVec 1) (dlc : BitVec 4) : Byte := 0b0#1 ++ rtr ++ 0b00#2 ++ dlc

/-- The length field of a DLC byte (R121). -/
def dlcField (h5 : Byte) : BitVec 4 := h5.extractLsb' 0 4

/-- The RTR bit of a DLC byte (R121). -/
def rtrField (h5 : Byte) : BitVec 1 := h5.extractLsb' 6 1

/-- The count of valid bytes, `5 + dlc` (R122). -/
def frameBytes (dlc : BitVec 4) : BitVec 4 := 5 + dlc

/-- The pure function of ENCODE (R120): the identifier is checked before the length (R125), and the
lanes from `dlc` on are free (R124). A remote frame is encoded as a data frame is (R123). -/
def encodeFrame (id : BitVec 32) (ext rtr : BitVec 1) (dlc : BitVec 4) (data : Payload)
    (free : Fin 8 → Byte) : Reply HeaderResult :=
  match packId id ext with
  | .raise st => .raise st
  | .ok h =>
    if dlcInRange dlc then
      .ok ⟨⟨h, dlcByte rtr dlc⟩, carriedLanes dlc data free, frameBytes dlc⟩
    else .raise .dlcRange

/-- The pure function of DECODE (R126): bits 7, 5 and 4 of `h5` are not read, and the lanes from the
length on are free (R129). -/
def decodeFrame (hdr : Header) (pay : Payload) (free : Fin 8 → Byte) : Reply FrameResult :=
  let dlc := dlcField hdr.h5
  if dlcInRange dlc then
    .ok { id := (readId hdr.ident).1, ext := (readId hdr.ident).2, rtr := rtrField hdr.h5, dlc := dlc,
          data := carriedLanes dlc pay free }
  else .raise .dlcRange

/-- ENCODE (R120). -/
def execEncode (id : BitVec 32) (ext rtr : BitVec 1) (dlc : BitVec 4) (data : Payload) (s : State) :
    Host.Outcome State Fault Refusal :=
  .next (conclude opEncode (encodeFrame id ext rtr dlc data s.freeLanes) State.writeHeader s)

/-- DECODE (R126). -/
def execDecode (hdr : Header) (pay : Payload) (s : State) : Host.Outcome State Fault Refusal :=
  .next (conclude opDecode (decodeFrame hdr pay s.freeLanes) State.writeFrame s)

end Sys2Proof.Machine
end

