-- ==== Sys2Proof/Machine/Reserved.lean ====
section
/-! DEFINITION. The reserved ops (30_encoding.md R66): each completes with `ILLEGAL_OP`, shows its own value
in `rsp_op`, and writes no result group. -/

namespace Sys2Proof.Machine

/-- The reserved op `0b101` (R66). -/
def execRsvd101 (s : State) : Host.Outcome State Fault Refusal :=
  .next (s.complete opRsvd101 .illegalOp)

/-- The reserved ops `0b110` and `0b111` (R66). -/
def execRsvd11x (x : BitVec 1) (s : State) : Host.Outcome State Fault Refusal :=
  .next (s.complete (opRsvd11x x) .illegalOp)

end Sys2Proof.Machine
end

