-- ==== Sys2Proof/Machine/Dispatch.lean ====
section
/-! DEFINITION. Which meaning each command has. `exec i s` is the completing edge of `i` in `s`
(10_state.md R38): the pure function of `i` is evaluated and its results are written. -/

namespace Sys2Proof.Machine

def exec (i : Instr) (s : State) : Host.Outcome State Fault Refusal :=
  match i with
  -- TCALC
  | .calcTiming kbps osc sjw => Sys2Proof.Machine.execCalc kbps osc sjw s
  -- IDPK
  | .packid id ext => Sys2Proof.Machine.execPackid id ext s
  | .unpackid hdr => Sys2Proof.Machine.execUnpackid hdr s
  -- FCODEC
  | .encode id ext rtr dlc data => Sys2Proof.Machine.execEncode id ext rtr dlc data s
  | .decode hdr pay => Sys2Proof.Machine.execDecode hdr pay s
  -- reserved ops
  | .rsvd101 => Sys2Proof.Machine.execRsvd101 s
  | .rsvd11x x => Sys2Proof.Machine.execRsvd11x x s

end Sys2Proof.Machine
end

