-- ==== Sys2Proof/Machine/Edge.lean ====
section
/-! DEFINITION. One rising edge (10_state.md R35): the cases in their order, the first that applies being
the whole step. -/

namespace Sys2Proof.Machine

/-- The command in the latch. -/
def State.pending (s : State) : Instr := decode s.pend

/-- One rising edge of `clk` (R35). Reset has priority over everything (R171); before the first reset
edge nothing else is answered (70_reset_and_hazards.md R173, log 7); a busy block waits or completes
(R37, R38); an idle one accepts what is offered (R36) or stays as it is (R39). -/
def risingEdge (s : State) : Host.Outcome State Fault Refusal :=
  if s.portsNow.rst then .next s.tick.toReset
  else if s.live = false then .refused .beforeFirstReset
  else if s.busy then
    if s.wait > 1 then .next s.tick.countDown else exec s.pending s.tick
  else if s.portsNow.cmdValid then .next (s.tick.accept s.portsNow.cmd)
  else .next s.tick

/-- `s` with no reset asserted at the coming edge. -/
def State.releaseReset (s : State) : State :=
  match s.inputs with
  | [] => s
  | p :: ps => { s with inputs := { p with rst := false } :: ps }

/-- `s` at the completing edge of the command `c`: latched, the last edge of its latency to come, no
reset asserted, and a reset edge in the past (log 8). -/
def State.awaiting (c : Command) (s : State) : State :=
  { s.releaseReset with pend := c, busy := true, rspValid := false, wait := 1, live := true }

end Sys2Proof.Machine
end

