-- ==== Sys2Proof/Machine/Step.lean ====
section
/-! DEFINITION. The step of the machine, one rising edge of `clk` (10_state.md R35), and the placing of a
command where the next step completes it (log 8). -/

namespace Sys2Proof.Machine

/-- One step is one rising edge (R35). -/
def step (s : State) : Host.Outcome State Fault Refusal := risingEdge s

/-- `s` with the command of `w` in the latch and its completing edge next, so that the next step runs
exactly that command. The block fetches nothing (10_state.md R20): the host accepted the command at an
earlier edge (log 8). -/
def State.withFetchWord (s : State) (nbits w : Nat) : State := s.awaiting (tableCommand nbits w)

end Sys2Proof.Machine
end

