-- ==== Sys2Proof/Machine/Outputs.lean ====
section
/-! DEFINITION. The output ports (10_state.md R22) as the host sees them (R41). Reading them changes nothing
(20_memory.md R56), so this is a function of the state and no part of the step. -/

namespace Sys2Proof.Machine

/-- The output ports of R22. -/
structure Outputs where
  cmdReady  : Bool
  rspValid  : Bool
  rspOp     : BitVec 3
  rspStatus : BitVec 3
  tr        : TimingResult
  hr        : HeaderResult
  fr        : FrameResult
  deriving DecidableEq, Repr

/-- A free value of the width `w`, for the reading numbered `read` and the port numbered `port` (log 6). -/
def State.freeOutput (s : State) (read port w : Nat) : BitVec w :=
  BitVec.ofNat w (Config.freePort s.edge read port)

/-- Free bytes on the eight lanes from the port numbered `port` on (log 6). -/
def State.freePayload (s : State) (read port : Nat) : Payload :=
  Payload.ofLanes (fun i => s.freeOutput read (port + i.val) 8)

/-- A handshake port driven with `b`; before the first reset edge, where the block's behaviour is unknown
(R173), a free value of its own (log 15). -/
def State.handshakePort (s : State) (read port : Nat) (b : Bool) : Bool :=
  if s.live then b else s.freeOutput read port 1 == 1

/-- `cmd_ready = NOT busy` (R33): of the state alone, never of an input (R182). -/
def State.cmdReady (s : State) (read : Nat) : Bool := s.handshakePort read 34 (!s.busy)

/-- The port `rsp_valid`, driven from the element of the same name (R22, R25). -/
def State.rspValidPort (s : State) (read : Nat) : Bool := s.handshakePort read 35 s.rspValid

/-- The outputs while the result ports show nothing: every one of them a free value of its own (R41,
log 6). -/
def State.unspecifiedOutputs (s : State) (read : Nat) : Outputs where
  cmdReady := s.cmdReady read
  rspValid := s.rspValidPort read
  rspOp := s.freeOutput read 0 3
  rspStatus := s.freeOutput read 1 3
  tr := ⟨s.freeOutput read 2 3, s.freeOutput read 3 4, s.freeOutput read 4 4, s.freeOutput read 5 4,
         s.freeOutput read 6 3, s.freeOutput read 7 5⟩
  hr := ⟨⟨⟨s.freeOutput read 8 8, s.freeOutput read 9 8, s.freeOutput read 10 8,
           s.freeOutput read 11 8⟩, s.freeOutput read 12 8⟩,
         s.freePayload read 13, s.freeOutput read 21 4⟩
  fr := ⟨s.freeOutput read 22 29, s.freeOutput read 23 1, s.freeOutput read 24 1,
         s.freeOutput read 25 4, s.freePayload read 26⟩

/-- The outputs with the result ports as the elements drive them (R22). -/
def State.drivenOutputs (s : State) (read : Nat) : Outputs where
  cmdReady := s.cmdReady read
  rspValid := s.rspValidPort read
  rspOp := s.rspOp
  rspStatus := s.status
  tr := s.tr
  hr := s.hr
  fr := s.fr

/-- What the host sees at the reading numbered `read` since the last edge: the elements while
`rsp_valid = 1` (R22, R25), free values on the result ports otherwise (R41). Before the first reset edge
every port is a free value (R173, log 15). -/
def State.outputs (s : State) (read : Nat) : Outputs :=
  if s.live && s.rspValid then s.drivenOutputs read else s.unspecifiedOutputs read

end Sys2Proof.Machine
end

