-- ==== Sys2Proof/Machine/Text.lean ====
section
/-! DEFINITION. The text form of a command (30_encoding.md R69 to R72): reading a line, assembling it into
the port values it drives, and writing a command as a line and as the encoding notation of R72. No part of
the machine: a notation for test programs and transcribers (log 11). -/

namespace Sys2Proof.Machine.Text

/-- Why a line is rejected. -/
inductive TextError where
  /-- The line does not begin with a mnemonic of R69. -/
  | noMnemonic
  /-- The name before `=` is no operand of R69. -/
  | unknownOperand
  /-- The value is neither a number nor a list of numbers. -/
  | badValue
  /-- The line is not a sequence of `name=value`. -/
  | badForm
  /-- An operand is given twice. -/
  | repeatedOperand
  /-- A value lies outside the range R69 gives its operand, or a list is too long. -/
  | outOfRange
  /-- `op` on a command other than RSVD, or RSVD without it. -/
  | misplacedOp
  deriving DecidableEq, Repr

/-! ## Reading a line (R69) -/

/-- The tokens of a line. -/
inductive Token where
  | word (cs : List Char)
  | equals | opening | closing | comma
  deriving DecidableEq, Repr

/-- The word gathered so far, in reverse, put before the tokens that follow it. -/
def closeWord (cur : List Char) (rest : List Token) : List Token :=
  if cur = [] then rest else .word cur.reverse :: rest

/-- The tokens of a line; `cur` is the word being gathered, in reverse. -/
def tokens : List Char → List Char → List Token
  | [], cur => closeWord cur []
  | ' ' :: cs, cur => closeWord cur (tokens cs [])
  | '=' :: cs, cur => closeWord cur (.equals :: tokens cs [])
  | '[' :: cs, cur => closeWord cur (.opening :: tokens cs [])
  | ']' :: cs, cur => closeWord cur (.closing :: tokens cs [])
  | ',' :: cs, cur => closeWord cur (.comma :: tokens cs [])
  | c :: cs, cur => tokens cs (c :: cur)

/-- The digit a character stands for, below the base. -/
def digitOf (base : Nat) (c : Char) : Option Nat :=
  let n := c.toNat
  let v := if 48 ≤ n ∧ n ≤ 57 then n - 48 else if 65 ≤ n ∧ n ≤ 70 then n - 55
           else if 97 ≤ n ∧ n ≤ 102 then n - 87 else base
  if v < base then some v else none

/-- The number a sequence of digits stands for; none for no digit. -/
def digitsValue (base : Nat) : List Char → Option Nat
  | [] => none
  | cs => cs.foldlM (fun acc c => (digitOf base c).map (acc * base + ·)) 0

/-- A number of the text form: decimal, `0x` hexadecimal or `0b` binary (R69). -/
def numberOf : List Char → Option Nat
  | '0' :: 'x' :: cs => digitsValue 16 cs
  | '0' :: 'b' :: cs => digitsValue 2 cs
  | cs => digitsValue 10 cs

/-- The mnemonics of R69. -/
def mnemonicOf (cs : List Char) : Option Mnemonic :=
  if cs = "CALC".toList then some .calcTiming
  else if cs = "PACKID".toList then some .packid
  else if cs = "UNPACKID".toList then some .unpackid
  else if cs = "ENCODE".toList then some .encode
  else if cs = "DECODE".toList then some .decode
  else if cs = "RSVD".toList then some .rsvd
  else none

/-- The operand names of R69. -/
def operandOf (cs : List Char) : Option OperandName :=
  if cs = "kbps".toList then some .kbps
  else if cs = "osc".toList then some .osc
  else if cs = "sjw".toList then some .sjw
  else if cs = "id".toList then some .id
  else if cs = "ext".toList then some .ext
  else if cs = "rtr".toList then some .rtr
  else if cs = "dlc".toList then some .dlc
  else if cs = "data".toList then some .data
  else if cs = "hdr".toList then some .hdr
  else if cs = "pay".toList then some .pay
  else if cs = "op".toList then some .op
  else none

/-- Where the reading of `name=value` stands. -/
inductive Reading where
  | name
  | equals (n : OperandName)
  | value (n : OperandName)
  | firstItem (n : OperandName)
  | item (n : OperandName) (l : List Nat)
  | separator (n : OperandName) (l : List Nat)
  deriving DecidableEq, Repr

/-- One token further. The operands read so far stand in order. -/
def readToken : Reading × List (OperandName × Arg) → Token →
    Except TextError (Reading × List (OperandName × Arg))
  | (.name, out), .word cs =>
      match operandOf cs with
      | some n => .ok (.equals n, out)
      | none => .error .unknownOperand
  | (.equals n, out), .equals => .ok (.value n, out)
  | (.value n, out), .word cs =>
      match numberOf cs with
      | some v => .ok (.name, out ++ [(n, .num v)])
      | none => .error .badValue
  | (.value n, out), .opening => .ok (.firstItem n, out)
  | (.firstItem n, out), .closing => .ok (.name, out ++ [(n, .bytes [])])
  | (.firstItem n, out), .word cs =>
      match numberOf cs with
      | some v => .ok (.separator n [v], out)
      | none => .error .badValue
  | (.item n l, out), .word cs =>
      match numberOf cs with
      | some v => .ok (.separator n (l ++ [v]), out)
      | none => .error .badValue
  | (.separator n l, out), .comma => .ok (.item n l, out)
  | (.separator n l, out), .closing => .ok (.name, out ++ [(n, .bytes l)])
  | _, _ => .error .badForm

/-- The operands of a line, after its mnemonic. -/
def readOperands (ts : List Token) : Except TextError (List (OperandName × Arg)) :=
  match ts.foldlM readToken (.name, []) with
  | .ok (.name, out) => .ok out
  | .ok _ => .error .badForm
  | .error e => .error e

/-- A line of the text form (R69). -/
def readLine (cs : List Char) : Except TextError TextLine :=
  match tokens cs [] with
  | .word w :: ts =>
      match mnemonicOf w with
      | some m => (readOperands ts).map (⟨m, ·⟩)
      | none => .error .noMnemonic
  | _ => .error .noMnemonic

/-! ## Assembling a line (R69 to R71) -/

/-- The value of `cmd_op` a mnemonic stands for (R61, R71); of RSVD it is the operand `op`. -/
def opOf (fill : BitVec 3) : Mnemonic → BitVec 3
  | .calcTiming => opCalc
  | .packid => opPackid
  | .unpackid => opUnpackid
  | .encode => opEncode
  | .decode => opDecode
  | .rsvd => fill

/-- Byte `i` of a list, or of the unspecified values where the list is shorter (R70). -/
def byteAt (l : List Nat) (i : Nat) (rest : Byte) : Byte :=
  match l[i]? with
  | some v => BitVec.ofNat 8 v
  | none => rest

/-- The payload a list drives (R70): its first element has index 0 (R69). -/
def drivePayload (l : List Nat) (rest : Payload) : Payload :=
  Payload.ofLanes (fun i => byteAt l i.val (rest.lane i))

/-- The header a list drives (R70): its first element has index 1 (R69). -/
def driveHeader (l : List Nat) (rest : Header) : Header :=
  ⟨⟨byteAt l 0 rest.ident.h1, byteAt l 1 rest.ident.h2, byteAt l 2 rest.ident.h3,
    byteAt l 3 rest.ident.h4⟩, byteAt l 4 rest.h5⟩

/-- The port values with one operand driven. -/
def driveOperand (c : Command) : OperandName × Arg → Command
  | (.kbps, .num n) => { c with kbps := BitVec.ofNat 16 n }
  | (.osc, .num n) => { c with osc := BitVec.ofNat 8 n }
  | (.sjw, .num n) => { c with sjw := BitVec.ofNat 8 n }
  | (.id, .num n) => { c with id := BitVec.ofNat 32 n }
  | (.ext, .num n) => { c with ext := BitVec.ofNat 1 n }
  | (.rtr, .num n) => { c with rtr := BitVec.ofNat 1 n }
  | (.dlc, .num n) => { c with dlc := BitVec.ofNat 4 n }
  | (.op, .num n) => { c with op := BitVec.ofNat 3 n }
  | (.data, .bytes l) => { c with data := drivePayload l c.data }
  | (.hdr, .bytes l) => { c with hdr := driveHeader l c.hdr }
  | (.pay, .bytes l) => { c with pay := drivePayload l c.pay }
  | (_, _) => c

/-- The ports a line drives. A port it does not drive has its value in `fill`, which is unspecified (R70):
a result that depends on `fill` is an unspecified value. -/
def assemble (fill : Command) (t : TextLine) : Except TextError Command :=
  if ¬ (t.operands.map Prod.fst).Nodup then .error .repeatedOperand
  else if t.operands.all (fun a => Arg.fits a.1 a.2) = false then .error .outOfRange
  else if t.opPlaced = false then .error .misplacedOp
  else .ok (t.operands.foldl driveOperand { fill with op := opOf fill.op t.mnemonic })

/-! ## Writing a command (R69, R72) -/

/-- The numbers of a payload's bytes. -/
def payloadNumbers (p : Payload) : List Nat :=
  [p.b0.toNat, p.b1.toNat, p.b2.toNat, p.b3.toNat, p.b4.toNat, p.b5.toNat, p.b6.toNat, p.b7.toNat]

/-- The numbers of the identifier bytes. -/
def identNumbers (h : IdBytes) : List Nat := [h.h1.toNat, h.h2.toNat, h.h3.toNat, h.h4.toNat]

/-- The line of the text form that drives every operand the command reads (R69). -/
def lineOf : Instr → TextLine
  | .calcTiming kbps osc sjw =>
      ⟨.calcTiming, [(.kbps, .num kbps.toNat), (.osc, .num osc.toNat), (.sjw, .num sjw.toNat)]⟩
  | .packid id ext => ⟨.packid, [(.id, .num id.toNat), (.ext, .num ext.toNat)]⟩
  | .unpackid hdr => ⟨.unpackid, [(.hdr, .bytes (identNumbers hdr))]⟩
  | .encode id ext rtr dlc data =>
      ⟨.encode, [(.id, .num id.toNat), (.ext, .num ext.toNat), (.rtr, .num rtr.toNat),
                 (.dlc, .num dlc.toNat), (.data, .bytes (payloadNumbers data))]⟩
  | .decode hdr pay =>
      ⟨.decode, [(.hdr, .bytes (identNumbers hdr.ident ++ [hdr.h5.toNat])),
                 (.pay, .bytes (payloadNumbers pay))]⟩
  | .rsvd101 => ⟨.rsvd, [(.op, .num opRsvd101.toNat)]⟩
  | .rsvd11x x => ⟨.rsvd, [(.op, .num (opRsvd11x x).toNat)]⟩

/-- The character of a digit. -/
def digitChar (d : Nat) : Char := Char.ofNat (if d < 10 then 48 + d else 55 + d)

/-- The last `n` digits of a number, most significant first. -/
def digits (base v : Nat) : Nat → List Char
  | 0 => []
  | n + 1 => digits base (v / base) n ++ [digitChar (v % base)]

/-- `name=0b…`, `n` binary digits. -/
def binaryPort (name : String) (n v : Nat) : List Char := name.toList ++ "=0b".toList ++ digits 2 v n

/-- `name=0x…`, `n` hexadecimal digits. -/
def hexPort (name : String) (n v : Nat) : List Char := name.toList ++ "=0x".toList ++ digits 16 v n

/-- Bytes written flattened, the lowest index most significant (20_memory.md R54). -/
def hexBytes (l : List Nat) : List Char := (l.map (fun v => digits 16 v 2)).flatten

/-- The first `dlc` lanes of a payload port; `any` where no lane matters. -/
def hexLanes (name : String) (dlc : Nat) (p : Payload) : List Char :=
  if dlc = 0 ∨ 8 < dlc then name.toList ++ "=any".toList
  else name.toList ++ "[0..".toList ++ [digitChar (dlc - 1)] ++ "]=0x".toList ++
    hexBytes ((payloadNumbers p).take dlc)

/-- The encoding notation of R72: `cmd_op` in binary, then each port the command reads. -/
def encodingOf (i : Instr) : List Char :=
  let op := binaryPort "cmd_op" 3 i.op.toNat
  let sp := " ".toList
  match i with
  | .calcTiming kbps osc sjw =>
      op ++ sp ++ hexPort "in_kbps" 4 kbps.toNat ++ sp ++ hexPort "in_osc" 2 osc.toNat ++ sp ++
        hexPort "in_sjw" 2 sjw.toNat
  | .packid id ext =>
      op ++ sp ++ hexPort "in_id" 8 id.toNat ++ sp ++ binaryPort "in_ext" 1 ext.toNat
  | .unpackid hdr => op ++ sp ++ "in_hdr[1..4]=0x".toList ++ hexBytes (identNumbers hdr)
  | .encode id ext rtr dlc data =>
      op ++ sp ++ hexPort "in_id" 8 id.toNat ++ sp ++ binaryPort "in_ext" 1 ext.toNat ++ sp ++
        binaryPort "in_rtr" 1 rtr.toNat ++ sp ++ hexPort "in_dlc" 1 dlc.toNat ++ sp ++
        hexLanes "in_data" dlc.toNat data
  | .decode hdr pay =>
      op ++ sp ++ "in_hdr[1..5]=0x".toList ++
        hexBytes (identNumbers hdr.ident ++ [hdr.h5.toNat]) ++ sp ++
        hexLanes "in_pay" (hdr.h5.extractLsb' 0 4).toNat pay
  | .rsvd101 => op
  | .rsvd11x _ => op

end Sys2Proof.Machine.Text
end

