-- ==== Sys2Proof/Safety.lean ====
section
/-! DEFINITION. What a run of the block is promised, in the terms claims use: what a result group can hold
(40_timing_calculator.md R87, 41_identifier_packer.md R101, R102, 42_frame_codec.md R121, R122, R128), which
status each op can report (60_exceptions.md R151), the invariant of a state after a reset edge, and what
two states can share. -/

namespace Sys2Proof.Machine

/-- Every item of R87, on the ports of TR read unsigned. -/
def TimingResult.Valid (t : TimingResult) : Prop :=
  1 + t.prseg.toNat + t.phseg1.toNat + t.phseg2.toNat = t.bt.toNat ∧
  (1 ≤ t.prseg.toNat ∧ t.prseg.toNat ≤ 8) ∧
  (1 ≤ t.phseg1.toNat ∧ t.phseg1.toNat ≤ 8) ∧
  (2 ≤ t.phseg2.toNat ∧ t.phseg2.toNat ≤ 8) ∧
  (5 ≤ t.bt.toNat ∧ t.bt.toNat ≤ 25) ∧
  (1 ≤ t.sjw.toNat ∧ t.sjw.toNat ≤ 4) ∧
  t.phseg2.toNat ≤ t.prseg.toNat + t.phseg1.toNat ∧
  t.sjw.toNat < t.phseg2.toNat

/-- The identifier bytes are ones PACKID can produce: every bit R101 and R102 fix at zero is zero. -/
def CanonicalId (h : IdBytes) : Prop := canonicalId h = h

/-- HR holds what PACKID and ENCODE write, or its reset value: `h5` has bits 7, 5 and 4 clear and a
length of at most 8 (R121), and `hr_nbytes` is `5 + dlc` (R122), or both are still 0. -/
def HeaderResult.Legal (h : HeaderResult) : Prop :=
  CanonicalId h.hdr.ident ∧
  ((h.hdr.h5 = 0 ∧ h.nbytes = 0) ∨
    (h.hdr.h5 &&& 0b10110000#8 = 0 ∧ (dlcField h.hdr.h5).toNat ≤ 8 ∧
      h.nbytes.toNat = 5 + (dlcField h.hdr.h5).toNat))

/-- FR holds a frame whose identifier fits its width (00_scope.md R6) and whose length is at most 8. -/
def FrameResult.Legal (f : FrameResult) : Prop :=
  (f.ext = 0 → f.id.toNat ≤ 0x7FF) ∧ f.dlc.toNat ≤ 8

/-- The statuses a command can report (60_exceptions.md R151), by its op. -/
def Status.PossibleFor (op : BitVec 3) : Status → Prop
  | .ok => op.toNat ≤ 4
  | .timingInfeasible => op = opCalc
  | .idRange => op = opPackid ∨ op = opEncode
  | .dlcRange => op = opEncode ∨ op = opDecode
  | .illegalOp => 5 ≤ op.toNat

/-- What holds of the block after a reset edge, whatever commands were run. -/
structure State.Inv (s : State) : Prop where
  /-- A reset edge has happened (R173). -/
  live : s.live = true
  /-- A pending command has 1 to `MAX_LATENCY` edges left (R37). -/
  busy_wait : s.busy = true → 1 ≤ s.wait ∧ s.wait ≤ Config.maxLatency
  /-- An idle block waits for nothing (R38, R40). -/
  idle_wait : s.busy = false → s.wait = 0
  /-- No result is shown while a command is pending (R25, R36). -/
  busy_hides : s.busy = true → s.rspValid = false
  /-- `status` is a code its op can report, never a reserved one (R150, R151). -/
  status : ∃ st : Status, s.status = st.code ∧ st.PossibleFor s.rspOp
  /-- TR holds its reset value or a result of CALC (R40, R87). -/
  timing : s.tr = TimingResult.reset ∨ s.tr.Valid
  header : s.hr.Legal
  frame : s.fr.Legal

/-- Every element of R23 is the same in both states. -/
def State.SameBlock (s t : State) : Prop :=
  t.busy = s.busy ∧ t.rspValid = s.rspValid ∧ t.pend = s.pend ∧ t.wait = s.wait ∧
  t.status = s.status ∧ t.rspOp = s.rspOp ∧ t.tr = s.tr ∧ t.hr = s.hr ∧ t.fr = s.fr

/-- The two payloads agree on the first `n` lanes. -/
def AgreeBelow (n : Nat) (p q : Payload) : Prop := ∀ i : Fin 8, i.val < n → p.lane i = q.lane i

end Sys2Proof.Machine
end

