-- ==== Sys2Proof/Certificates/Slice0/Obligations.lean ====
section
/-! DEFINITION. The statements for the provers, in the order of OBLIGATIONS.json: encoding, the step
relation, the calculator, the identifier packer, the frame codec, and what holds of every command. A
statement that names free values (Config) holds whatever they are. -/

open Sys2Proof Sys2Proof.Machine

/-! ## Encoding -/

/-- Decode and encode agree on the flattened ports of a command (log 9), both ways: every command comes
back whatever the ports it does not read hold (R65), and every value of the 241 port bits comes back
from what is decoded of it and the ports the command does not read. -/
def Obligations.DecodeAndEncodeAgreeOnPortBits : Prop :=
  (∀ (rest : Command) (i : Instr), decode (Command.ofWord (encodeOnto rest i).toWord) = i) ∧
  (∀ w : BitVec 241, (encodeOnto (Command.ofWord w) (decode (Command.ofWord w))).toWord = w)

/-- R61: the op field alone selects the command; R62 to R64 give the operands it takes. -/
def Obligations.OpFieldSelectsCommand : Prop :=
  ∀ c : Command,
    (c.op = 0b000 → decode c = .calcTiming c.kbps c.osc c.sjw) ∧
    (c.op = 0b001 → decode c = .packid c.id c.ext) ∧
    (c.op = 0b010 → decode c = .unpackid c.hdr.ident) ∧
    (c.op = 0b011 → decode c = .encode c.id c.ext c.rtr c.dlc c.data) ∧
    (c.op = 0b100 → decode c = .decode c.hdr c.pay) ∧
    (c.op = 0b101 → decode c = .rsvd101) ∧
    (c.op = 0b110 → decode c = .rsvd11x 0) ∧
    (c.op = 0b111 → decode c = .rsvd11x 1)

/-- R67: each of the 8 values of the op field is covered by exactly one row of the opcode table, the row
of the command it decodes to. -/
def Obligations.EveryOpValueHasExactlyOneRow : Prop :=
  ∀ c : Command, ∃ r, opTable.filter (fun r => r.covers c.op) = [r] ∧ r.name = (decode c).rowName

/-- A few words written out from the spec's encodings (95_test_vectors.md S1, S2, V2, V3, V6), read as
spec/opcode_table.json numbers them: the op in bits 2:0, the operand ports above it (log 9). -/
def Obligations.WrittenOutWordsDecode : Prop :=
  decodeTableWord 35 (0b00000001_00010000_0000000111110100_000) = some (.calcTiming 0x01F4 0x10 0x01) ∧
  decodeTableWord 68 (0b1_00010010001101000101011001111000_00000000_00000000_0000000000000000_001) =
    some (.packid 0x12345678 1) ∧
  decodeTableWord 8 0b010 = some (.unpackid ⟨0, 0, 0, 0⟩) ∧
  decodeTableWord 8 0b011 = some (.encode 0 0 0 0 Payload.zero) ∧
  decodeTableWord 8 0b100 = some (.decode Header.zero Payload.zero) ∧
  decodeTableWord 8 0b101 = some .rsvd101 ∧
  decodeTableWord 8 0b110 = some (.rsvd11x 0) ∧
  decodeTableWord 8 0b111 = some (.rsvd11x 1)

/-- R54: a byte array as one vector has its lowest index most significant, and no byte is lost. -/
def Obligations.FlattenedPortsKeepLowestIndexMostSignificant : Prop :=
  (∀ (p : Payload) (i : Fin 8) (k : Nat), k < 8 →
    p.flat.getLsbD (8 * (7 - i.val) + k) = (p.lane i).getLsbD k) ∧
  (∀ h : Header,
    h.flat.toNat = h.ident.h1.toNat * 2 ^ 32 + h.ident.h2.toNat * 2 ^ 24 + h.ident.h3.toNat * 2 ^ 16 +
      h.ident.h4.toNat * 2 ^ 8 + h.h5.toNat) ∧
  (∀ v : BitVec 64, (Payload.ofFlat v).flat = v) ∧ (∀ v : BitVec 40, (Header.ofFlat v).flat = v)

/-- Ports are taken exactly when every one of them has the form of R21, and then each has the number
presented (R160, U11). The spec marks R160 as its own inference ("[derived: from 10_state.md rules R35 to
R40 and rule R154]"), and the place where the model refuses is its own (DEDUCED, log 12). -/
def Obligations.OnlyTheDefinedInterfaceFormIsTaken : Prop :=
  ∀ r : RawPorts,
    (r.wellFormed = true → ∃ p, r.connect = .ok p ∧ p.cmd.op.toNat = r.op.value ∧
      p.cmd.kbps.toNat = r.kbps.value ∧ p.cmd.osc.toNat = r.osc.value ∧ p.cmd.sjw.toNat = r.sjw.value ∧
      p.cmd.id.toNat = r.id.value ∧ p.cmd.ext.toNat = r.ext.value ∧ p.cmd.rtr.toNat = r.rtr.value ∧
      p.cmd.dlc.toNat = r.dlc.value ∧
      Text.payloadNumbers p.cmd.data = r.data.map Wire.value ∧
      Text.identNumbers p.cmd.hdr.ident ++ [p.cmd.hdr.h5.toNat] = r.hdr.map Wire.value ∧
      Text.payloadNumbers p.cmd.pay = r.pay.map Wire.value ∧
      (p.rst = true ↔ r.rst.value = 1) ∧ (p.cmdValid = true ↔ r.cmdValid.value = 1)) ∧
    (r.wellFormed = false → ∃ e, r.connect = .error e)

/-- R69 to R71: the line of a command assembles to that command's ports, whatever the unspecified ports
hold. What R69 leaves open about a line is the model's choice (log 11). -/
def Obligations.TextLineAssemblesToItsCommand : Prop :=
  ∀ (fill : Command) (i : Instr),
    Text.assemble fill (Text.lineOf i) = .ok (encodeOnto fill i) ∧ (Text.lineOf i).wellFormed = true

/-! ## The step relation -/

/-- A step runs the decoded command: at the completing edge (R37, R38) the step is `exec` of the command
in the latch, in the state whose inputs at this edge are used up and whose edge count is one more. That
`exec` is the completing edge alone is the model's reading (log 10). -/
def Obligations.StepRunsTheDecodedCommand : Prop :=
  ∀ s : State, s.live = true → s.portsNow.rst = false → s.busy = true → s.wait ≤ 1 →
    step s = exec (decode s.pend) { s with inputs := s.inputs.tail, edge := s.edge + 1 }

/-- The command of a table word is what the step after its placing runs (log 8), on the same results. -/
def Obligations.PlacedWordIsTheNextCommandRun : Prop :=
  ∀ (s : State) (nbits w : Nat) (i : Instr), decodeTableWord nbits w = some i →
    ∃ u, step (s.withFetchWord nbits w) = exec i u ∧ State.pending (s.withFetchWord nbits w) = i ∧
      u.tr = s.tr ∧ u.hr = s.hr ∧ u.fr = s.fr ∧ u.status = s.status ∧ u.rspOp = s.rspOp

/-- R40, R170: an edge with `rst = 1` gives every element of R23 its reset value, whatever the state and
the other inputs. -/
def Obligations.ResetEdgeGivesResetValues : Prop :=
  ∀ s : State, s.portsNow.rst = true →
    ∃ t, step s = .next t ∧ t.busy = false ∧ t.rspValid = false ∧ t.wait = 0 ∧
      t.pend = ⟨0, 0, 0, 0, 0, 0, 0, 0, ⟨0, 0, 0, 0, 0, 0, 0, 0⟩, ⟨⟨0, 0, 0, 0⟩, 0⟩, ⟨0, 0, 0, 0, 0, 0, 0, 0⟩⟩ ∧
      t.status = 0 ∧ t.rspOp = 0 ∧ t.tr = ⟨0, 0, 0, 0, 0, 0⟩ ∧
      t.hr = ⟨⟨⟨0, 0, 0, 0⟩, 0⟩, ⟨0, 0, 0, 0, 0, 0, 0, 0⟩, 0⟩ ∧
      t.fr = ⟨0, 0, 0, 0, ⟨0, 0, 0, 0, 0, 0, 0, 0⟩⟩

/-- R171: a reset edge abandons the pending command for good. Until the host offers a command at an edge
without reset, the block stays as reset left it, for any number of edges: no status, no result. -/
def Obligations.ResetAbandonsThePendingCommand : Prop :=
  ∀ (s : State) (n : Nat), s.portsNow.rst = true →
    (∀ p ∈ s.inputs.tail.take n, p.rst = true ∨ p.cmdValid = false) →
    ∃ t, core.run (n + 1) s = .next t ∧ State.reset.SameBlock t

/-- R172: the block leaves reset ready, and a command offered at the first edge with `rst = 0` is
accepted.
The spec marks this as its own inference ("[derived: from R33, R36 and R40]"). -/
def Obligations.BlockLeavesResetReady : Prop :=
  ∀ (s : State) (p q : Ports) (ps : List Ports), s.inputs = p :: q :: ps → p.rst = true →
    q.rst = false → q.cmdValid = true →
    ∃ t u, step s = .next t ∧ (∀ k, (t.outputs k).cmdReady = true) ∧ step t = .next u ∧
      u.busy = true ∧ u.pend = q.cmd

/-- R36: acceptance latches every operand port, shows busy, hides the results and draws the latency;
nothing else changes. It depends on no operand and on no op. -/
def Obligations.AcceptLatchesEveryPort : Prop :=
  ∀ s : State, s.live = true → s.portsNow.rst = false → s.busy = false → s.portsNow.cmdValid = true →
    ∃ d, 1 ≤ d ∧ d ≤ Config.maxLatency ∧
      step s = .next { s with pend := s.portsNow.cmd, busy := true, rspValid := false, wait := d,
                              inputs := s.inputs.tail, edge := s.edge + 1 }

/-- Two acceptances at the same edge draw the same latency, whatever the ports hold. R37 says that the
draw does not depend on the op or the operands; that two runs draw the SAME latency is the model's choice
(log 3: the draw is an opaque function of the edge), where R180 lets `d` differ between two runs. -/
def Obligations.LatencyDrawIgnoresTheCommand : Prop :=
  ∀ (s t u : State) (p q : Ports) (ps : List Ports), s.busy = false →
    p.rst = false → p.cmdValid = true → q.rst = false → q.cmdValid = true →
    step { s with inputs := p :: ps } = .next t → step { s with inputs := q :: ps } = .next u →
    t.wait = u.wait

/-- R37: while more than one edge is left, an edge takes one off and changes nothing else. -/
def Obligations.WaitingEdgeOnlyCountsDown : Prop :=
  ∀ s : State, s.live = true → s.portsNow.rst = false → s.busy = true → 1 < s.wait →
    step s = .next { s with wait := s.wait - 1, inputs := s.inputs.tail, edge := s.edge + 1 }

/-- R39: any number of idle edges change no element of R23. -/
def Obligations.IdleEdgesChangeNothing : Prop :=
  ∀ (s : State) (n : Nat), s.live = true → s.busy = false →
    (∀ p ∈ s.inputs.take n, p.rst = false ∧ p.cmdValid = false) →
    ∃ t, core.run n s = .next t ∧ s.SameBlock t

/-- R37, R156, R57, R38: an accepted command completes at the `d`-th edge after the accepting edge, for
some `d` in 1..`MAX_LATENCY`, unless reset comes first. Until then the block is busy, holds that command
and shows no result, and every result stays; at the `d`-th edge it does what `exec` does with the
command on the very results it was accepted over. -/
def Obligations.AcceptedCommandCompletesWithinMaxLatency : Prop :=
  ∀ s : State, s.live = true → s.busy = false → s.portsNow.rst = false → s.portsNow.cmdValid = true →
    (∀ p ∈ s.inputs.take (Config.maxLatency + 1), p.rst = false) →
    ∃ d, 1 ≤ d ∧ d ≤ Config.maxLatency ∧
      (∀ k < d, ∃ t, core.run (k + 1) s = .next t ∧ t.busy = true ∧ t.rspValid = false ∧
        t.pend = s.portsNow.cmd ∧ t.wait = d - k ∧ t.status = s.status ∧ t.rspOp = s.rspOp ∧
        t.tr = s.tr ∧ t.hr = s.hr ∧ t.fr = s.fr) ∧
      core.run (d + 1) s = exec (decode s.portsNow.cmd)
        { s with pend := s.portsNow.cmd, busy := true, rspValid := false, wait := 1,
                 inputs := s.inputs.drop (d + 1), edge := s.edge + (d + 1) }

/-- R175: the operand ports matter at an accepting edge only. R178: while the block is busy the offer
itself does not matter: it is not taken, queued or lost. The spec marks R178 as its own inference
("[derived: from 10_state.md rules R33, R36 and R38]"). Where the edge completes an ENCODE or a DECODE, the
equality of the two steps also equates the unspecified payload lanes from the length on; that they are
equal in two runs is the model's choice (log 5: an opaque function of the edge and the lane). -/
def Obligations.PortsAreSampledAtTheAcceptingEdgeOnly : Prop :=
  (∀ (s : State) (p q : Ports) (ps : List Ports), p.rst = q.rst → p.cmdValid = q.cmdValid →
    (p.rst = true ∨ s.busy = true ∨ p.cmdValid = false) →
    step { s with inputs := p :: ps } = step { s with inputs := q :: ps }) ∧
  (∀ (s : State) (p q : Ports) (ps : List Ports), p.rst = q.rst → s.busy = true →
    step { s with inputs := p :: ps } = step { s with inputs := q :: ps })

/-- R176: `cmd_valid` held past completion is a second acceptance of whatever the ports then hold.
The spec marks this as its own inference ("[derived: from R33, R36 and R38]"). -/
def Obligations.HeldOfferIsAcceptedAgain : Prop :=
  ∀ (s : State) (p q : Ports) (ps : List Ports), s.inputs = p :: q :: ps → s.live = true →
    s.busy = true → s.wait ≤ 1 → p.rst = false → q.rst = false → q.cmdValid = true →
    ∃ t u, step s = .next t ∧
      (∀ k, (t.outputs k).rspValid = true ∧ (t.outputs k).cmdReady = true) ∧ t.rspValid = true ∧
      step t = .next u ∧ u.busy = true ∧ u.rspValid = false ∧ u.pend = q.cmd ∧
      u.tr = t.tr ∧ u.hr = t.hr ∧ u.fr = t.fr ∧ u.status = t.status ∧ u.rspOp = t.rspOp

/-- R24, R25: `busy` is 1 from acceptance to completion and `rsp_valid` from completion to the next
acceptance, and each is 0 otherwise. -/
def Obligations.HandshakeBitsFollowAcceptanceAndCompletion : Prop :=
  ∀ s t : State, s.Inv → step s = .next t →
    (t.busy = true ↔ s.portsNow.rst = false ∧
      ((s.busy = true ∧ 1 < s.wait) ∨ (s.busy = false ∧ s.portsNow.cmdValid = true))) ∧
    (t.rspValid = true ↔ s.portsNow.rst = false ∧
      ((s.busy = true ∧ s.wait ≤ 1) ∨
        (s.busy = false ∧ s.portsNow.cmdValid = false ∧ s.rspValid = true)))

/-- R173, R160: the only edge that gives no next state is one without reset before the first reset edge
(log 7). A block that was reset always steps. -/
def Obligations.OnlyAnUnresetBlockRefusesAnEdge : Prop :=
  ∀ s : State,
    (∀ r, step s = .refused r ↔ s.live = false ∧ s.portsNow.rst = false ∧ r = .beforeFirstReset) ∧
    ((s.live = true ∨ s.portsNow.rst = true) ↔ ∃ t, step s = .next t ∧ t.live = true)

/-- R33, R182: of a block that was reset, `cmd_ready` is NOT `busy`, and no input at the coming edges
reaches it or any other output. While `rsp_valid = 0` that equates the unspecified values of the result
ports at one reading, which is the model's choice (log 6: opaque functions of the edge, the reading and
the port). (Before the first reset edge: NothingShowsBeforeTheFirstReset.) -/
def Obligations.CmdReadyDependsOnStateOnly : Prop :=
  ∀ (s : State) (ins : List Ports) (k : Nat), s.live = true →
    (s.outputs k).cmdReady = !s.busy ∧ (State.outputs { s with inputs := ins } k) = s.outputs k

/-- R22, R25: while `rsp_valid = 1` every result port shows its element, at every reading,
of a block that was reset. (Before the first reset edge: NothingShowsBeforeTheFirstReset.) -/
def Obligations.ResultPortsShowTheirElements : Prop :=
  ∀ (s : State) (k : Nat), s.live = true → s.rspValid = true →
    s.outputs k = ⟨!s.busy, true, s.rspOp, s.status, s.tr, s.hr, s.fr⟩

/-- The invariant of a block that was reset holds of the reset state. -/
def Obligations.InvariantHoldsAtReset : Prop := State.reset.Inv

/-- Every step keeps the invariant: the handshake is legal, the wait is within `MAX_LATENCY`, the status
is one its op can report, and each result group holds its reset value or what a command can write
(R37, R87, R121, R122, R128, R150, R151). -/
def Obligations.EveryStepKeepsTheInvariant : Prop :=
  ∀ s t : State, s.Inv → step s = .next t → t.Inv

/-! ## The calculator -/

/-- CALC completes on every operand value. On `OK` TR holds the exact configuration, each field a plain
count with nothing lost in narrowing (R88); on a rejection TR is unchanged (R29). Nothing else changes
but what every completion writes. -/
def Obligations.CalcWritesTheExactConfiguration : Prop :=
  ∀ (kbps : BitVec 16) (osc sjw : BitVec 8) (s : State),
    ∃ t, exec (.calcTiming kbps osc sjw) s = .next t ∧
      t = { s with status := t.status, rspOp := 0b000, busy := false, rspValid := true, wait := 0,
                   tr := t.tr } ∧
      (∀ c, calcExact kbps.toNat osc.toNat sjw.toNat = .ok c →
        t.status = 0b000 ∧ t.tr.brp.toNat = c.brp ∧ (t.tr.prseg.toNat : Int) = c.seg.prseg ∧
        (t.tr.phseg1.toNat : Int) = c.seg.phseg1 ∧ (t.tr.phseg2.toNat : Int) = c.seg.phseg2 ∧
        t.tr.sjw.toNat = c.sjw ∧ t.tr.bt.toNat = c.bt) ∧
      (∀ st, calcExact kbps.toNat osc.toNat sjw.toNat = .raise st → t.status = 0b001 ∧ t.tr = s.tr)

/-- Rows of 95_test_vectors.md V1, run as commands. -/
def Obligations.CalcWorkedVectors : Prop :=
  ∀ s : State,
    exec (.calcTiming 500 16 1) s = .next { s with
      status := 0, rspOp := 0, busy := false, rspValid := true, wait := 0, tr := ⟨0, 5, 5, 5, 1, 16⟩ } ∧
    exec (.calcTiming 40 16 1) s = .next { s with
      status := 0, rspOp := 0, busy := false, rspValid := true, wait := 0, tr := ⟨7, 8, 8, 8, 1, 25⟩ } ∧
    exec (.calcTiming 60 12 1) s = .next { s with
      status := 0, rspOp := 0, busy := false, rspValid := true, wait := 0, tr := ⟨3, 8, 8, 8, 1, 25⟩ } ∧
    exec (.calcTiming 500 16 255) s = .next { s with
      status := 0, rspOp := 0, busy := false, rspValid := true, wait := 0, tr := ⟨0, 5, 5, 5, 4, 16⟩ } ∧
    exec (.calcTiming 1000 16 3) s = .next { s with
      status := 1, rspOp := 0, busy := false, rspValid := true, wait := 0 }

/-- R81: SJW is clamped to the nearest bound of 1..4, and the clamped value is the one that is checked
and reported. -/
def Obligations.SjwIsClampedToOneToFour : Prop :=
  (∀ v, clampSjw v = if v = 0 then 1 else if 5 ≤ v then 4 else v) ∧
  (∀ kbps osc v, calcExact kbps osc v = calcExact kbps osc (clampSjw v)) ∧
  (∀ kbps osc v c, calcExact kbps osc v = .ok c → c.sjw = clampSjw v)

/-- R82: a zero bit rate or a zero oscillator is infeasible. The guard on the oscillator changes no
outcome, since the search would find a bit time of 0 at prescaler 0, which fails: R82 marks this as the
spec's own inference ("[derived: from rules R84, R85 and R86]"). -/
def Obligations.ZeroInputsAreInfeasible : Prop :=
  (∀ osc sjw, calcExact 0 osc sjw = .raise .timingInfeasible) ∧
  (∀ kbps sjw, calcExact kbps 0 sjw = .raise .timingInfeasible) ∧
  (∀ kbps, 0 < kbps → firstFit kbps 0 = some (0, 0)) ∧
  (∀ sjw, judge (clampSjw sjw) 0 0 = .raise .timingInfeasible)

/-- R83: the bit time is the exact rational of the source's formulas, taken when it is an integer of at
most 25. -/
def Obligations.BitTimeIsTheExactRational : Prop :=
  ∀ kbps osc brp bt : Nat, 0 < kbps → 0 < osc →
    (quantaAt kbps osc brp = some bt ↔
      ((1000 : ℚ) / kbps) / (2 * ((brp : ℚ) + 1) / osc) = bt ∧ bt ≤ 25)

/-- R84: the search answers the least prescaler of 0..7 with an exact bit time of at most 25, and
answers none exactly when there is none; then the outcome is a rejection. -/
def Obligations.SearchAnswersTheLeastPrescaler : Prop :=
  ∀ kbps osc : Nat,
    (∀ brp bt, firstFit kbps osc = some (brp, bt) ↔
      brp ≤ 7 ∧ quantaAt kbps osc brp = some bt ∧ ∀ b < brp, quantaAt kbps osc b = none) ∧
    (firstFit kbps osc = none ↔ ∀ brp ≤ 7, quantaAt kbps osc brp = none) ∧
    ((∀ brp ≤ 7, quantaAt kbps osc brp = none) →
      ∀ sjwIn, calcExact kbps osc sjwIn = .raise .timingInfeasible)

/-- R85: the segments are the floors the source writes, toward minus infinity; a negative value occurs
only for a bit time of at most 1, which fails under every clamped SJW (R89, which the spec marks as
derived). So does the reading that truncates toward zero: R85 marks this as the spec's own inference
("[derived: from rule R86 and the table of rule R89]"). -/
def Obligations.SegmentsAreTheFloorsOfTheSource : Prop :=
  ∀ bt : Nat,
    samplePoint bt = ⌊(7 / 10 : ℚ) * bt⌋ ∧
    (segmentsOf bt).prseg = ⌊((samplePoint bt : ℚ) - 1) / 2⌋ ∧
    (segmentsOf bt).phseg1 = samplePoint bt - (segmentsOf bt).prseg - 1 ∧
    (segmentsOf bt).phseg2 = bt - (segmentsOf bt).phseg1 - (segmentsOf bt).prseg - 1 ∧
    ((segmentsOf bt).prseg < 0 ∨ (segmentsOf bt).phseg1 < 0 ∨ (segmentsOf bt).phseg2 < 0 → bt ≤ 1) ∧
    (bt ≤ 1 → ∀ sjw, 1 ≤ sjw → (segmentsOf bt).valid sjw = false ∧
      (samplePoint bt - 1).tdiv 2 = 0 ∧ samplePoint bt - (samplePoint bt - 1).tdiv 2 - 1 = -1 ∧
      Segments.valid ⟨0, -1, (bt : Int) - (-1) - 0 - 1⟩ sjw = false)

/-- R89: the table of segments and checks, row for row: bt, spt, prseg, phseg1, phseg2, and the checks
at SJW 1 to 4.
The spec marks this as its own inference ("[derived: from R85 and R86]"). -/
def Obligations.SegmentTableOfTheSpec : Prop :=
  (List.range 26).map (fun bt => (bt, samplePoint bt, (segmentsOf bt).prseg, (segmentsOf bt).phseg1,
      (segmentsOf bt).phseg2, [1, 2, 3, 4].map (segmentsOf bt).valid)) =
    [(0, 0, -1, 0, 0, [false, false, false, false]), (1, 0, -1, 0, 1, [false, false, false, false]),
     (2, 1, 0, 0, 1, [false, false, false, false]), (3, 2, 0, 1, 1, [false, false, false, false]),
     (4, 2, 0, 1, 2, [false, false, false, false]), (5, 3, 1, 1, 2, [true, false, false, false]),
     (6, 4, 1, 2, 2, [true, false, false, false]), (7, 4, 1, 2, 3, [true, true, false, false]),
     (8, 5, 2, 2, 3, [true, true, false, false]), (9, 6, 2, 3, 3, [true, true, false, false]),
     (10, 7, 3, 3, 3, [true, true, false, false]), (11, 7, 3, 3, 4, [true, true, true, false]),
     (12, 8, 3, 4, 4, [true, true, true, false])] ++
    [(13, 9, 4, 4, 4, [true, true, true, false]), (14, 9, 4, 4, 5, [true, true, true, true]),
     (15, 10, 4, 5, 5, [true, true, true, true]), (16, 11, 5, 5, 5, [true, true, true, true]),
     (17, 11, 5, 5, 6, [true, true, true, true]), (18, 12, 5, 6, 6, [true, true, true, true]),
     (19, 13, 6, 6, 6, [true, true, true, true]), (20, 14, 6, 7, 6, [true, true, true, true]),
     (21, 14, 6, 7, 7, [true, true, true, true]), (22, 15, 7, 7, 7, [true, true, true, true]),
     (23, 16, 7, 8, 7, [true, true, true, true]), (24, 16, 7, 8, 8, [true, true, true, true]),
     (25, 17, 8, 8, 8, [true, true, true, true])]

/-- R87: what every accepted configuration satisfies, for operands of any size.
The spec marks this as its own inference ("[derived: from R84 to R86]"). -/
def Obligations.AcceptedConfigurationsAreInBounds : Prop :=
  ∀ kbps osc sjwIn c, calcExact kbps osc sjwIn = .ok c →
    1 + c.seg.prseg + c.seg.phseg1 + c.seg.phseg2 = c.bt ∧
    (1 ≤ c.seg.prseg ∧ c.seg.prseg ≤ 8) ∧ (1 ≤ c.seg.phseg1 ∧ c.seg.phseg1 ≤ 8) ∧
    (2 ≤ c.seg.phseg2 ∧ c.seg.phseg2 ≤ 8) ∧ (5 ≤ c.bt ∧ c.bt ≤ 25) ∧ c.brp ≤ 7 ∧
    (1 ≤ c.sjw ∧ c.sjw ≤ 4) ∧
    c.seg.prseg + c.seg.phseg1 ≥ c.seg.phseg2 ∧ c.seg.phseg2 > (c.sjw : Int)

/-- R90: the segments of a bit time pass exactly from `BTmin` on; CALC succeeds exactly when the bit time
at the least qualifying prescaler is at least `BTmin`; and trying later prescalers after a failed check
gives the same outcome for every input.
The spec marks this as its own inference ("[derived: from R84, R86 and R89]"). -/
def Obligations.StoppingAtTheFirstPrescalerLosesNothing : Prop :=
  (∀ bt ≤ 25, ∀ sjw, 1 ≤ sjw → sjw ≤ 4 →
    ((segmentsOf bt).valid sjw = true ↔
      (if sjw = 1 then 5 else if sjw = 2 then 7 else if sjw = 3 then 11 else 14) ≤ bt)) ∧
  (∀ kbps osc sjwIn, (∃ c, calcExact kbps osc sjwIn = .ok c) ↔
    0 < kbps ∧ 0 < osc ∧ ∃ brp q, brp ≤ 7 ∧ 500 * osc = q * ((brp + 1) * kbps) ∧ q ≤ 25 ∧
      btMin (clampSjw sjwIn) ≤ q ∧
      ∀ b < brp, ¬ ∃ q', 500 * osc = q' * ((b + 1) * kbps) ∧ q' ≤ 25) ∧
  (∀ kbps osc sjwIn, calcRetrying kbps osc sjwIn = calcExact kbps osc sjwIn)

/-- R93: with no exact bit time of at most 25 the outcome is a rejection, and an accepted bit time is
exact: nothing is rounded. -/
def Obligations.CalcNeverRounds : Prop :=
  (∀ kbps osc sjwIn,
    (∀ brp ≤ 7, ∀ q ≤ 25, 500 * osc ≠ q * ((brp + 1) * kbps)) →
    calcExact kbps osc sjwIn = .raise .timingInfeasible) ∧
  (∀ kbps osc sjwIn c, calcExact kbps osc sjwIn = .ok c → c.bt * ((c.brp + 1) * kbps) = 500 * osc)

/-! ## The identifier packer -/

/-- R101: PACKID of a standard identifier, bit for bit. Only `hr_hdr[1..4]` of the groups is written. The
place of EXIDE, clear here, is from general knowledge, as R101 says (log 14). -/
def Obligations.PackidStandardLayout : Prop :=
  ∀ (id : BitVec 32) (s : State), id.toNat ≤ 0x7FF →
    ∃ h : IdBytes,
      exec (.packid id 0) s = .next { s with
        status := 0b000, rspOp := 0b001, busy := false, rspValid := true, wait := 0,
        hr := ⟨⟨h, s.hr.hdr.h5⟩, s.hr.pay, s.hr.nbytes⟩ } ∧
      (∀ k < 8, h.h1.getLsbD k = id.getLsbD (k + 3)) ∧
      (∀ k < 3, h.h2.getLsbD (k + 5) = id.getLsbD k) ∧ (∀ k < 5, h.h2.getLsbD k = false) ∧
      h.h3 = 0 ∧ h.h4 = 0

/-- R102: PACKID of an extended identifier, bit for bit; EXIDE is bit 3 of byte 2, from
general knowledge, as R102 says (log 14). -/
def Obligations.PackidExtendedLayout : Prop :=
  ∀ (id : BitVec 32) (s : State), id.toNat ≤ 0x1FFFFFFF →
    ∃ h : IdBytes,
      exec (.packid id 1) s = .next { s with
        status := 0b000, rspOp := 0b001, busy := false, rspValid := true, wait := 0,
        hr := ⟨⟨h, s.hr.hdr.h5⟩, s.hr.pay, s.hr.nbytes⟩ } ∧
      (∀ k < 8, h.h1.getLsbD k = id.getLsbD (k + 21)) ∧
      (∀ k < 3, h.h2.getLsbD (k + 5) = id.getLsbD (k + 18)) ∧
      h.h2.getLsbD 4 = false ∧ h.h2.getLsbD 3 = true ∧ h.h2.getLsbD 2 = false ∧
      (∀ k < 2, h.h2.getLsbD k = id.getLsbD (k + 16)) ∧
      (∀ k < 8, h.h3.getLsbD k = id.getLsbD (k + 8)) ∧
      (∀ k < 8, h.h4.getLsbD k = id.getLsbD k)

/-- R103, R125: an identifier that does not fit the width `ext` selects is `ID_RANGE` for PACKID and for
ENCODE, whatever ENCODE's length, and no byte is written. -/
def Obligations.IdentifierOutOfRangeIsRejected : Prop :=
  ∀ (id : BitVec 32) (ext : BitVec 1) (s : State),
    (ext = 0 ∧ 0x7FF < id.toNat) ∨ (ext = 1 ∧ 0x1FFFFFFF < id.toNat) →
    exec (.packid id ext) s = .next { s with
      status := 0b010, rspOp := 0b001, busy := false, rspValid := true, wait := 0 } ∧
    ∀ (rtr : BitVec 1) (dlc : BitVec 4) (data : Payload),
      exec (.encode id ext rtr dlc data) s = .next { s with
        status := 0b010, rspOp := 0b011, busy := false, rspValid := true, wait := 0 }

/-- R104: UNPACKID completes with `OK` on every header; bit 3 of byte 2 tells the width, and the
identifier is its bytes put together. Only `fr_id` and `fr_ext` of the groups are written. The place of
EXIDE is from general knowledge (R102, log 14). -/
def Obligations.UnpackidReadsTheIdentifier : Prop :=
  ∀ (h : IdBytes) (s : State),
    ∃ id ext,
      exec (.unpackid h) s = .next { s with
        status := 0b000, rspOp := 0b010, busy := false, rspValid := true, wait := 0,
        fr := ⟨id, ext, s.fr.rtr, s.fr.dlc, s.fr.data⟩ } ∧
      (h.h2.getLsbD 3 = false → ext = 0 ∧ id.toNat = h.h1.toNat * 2 ^ 3 + h.h2.toNat / 2 ^ 5) ∧
      (h.h2.getLsbD 3 = true → ext = 1 ∧ id.toNat = h.h1.toNat * 2 ^ 21 +
        h.h2.toNat / 2 ^ 5 * 2 ^ 18 + h.h2.toNat % 2 ^ 2 * 2 ^ 16 + h.h3.toNat * 2 ^ 8 + h.h4.toNat)

/-- R105: UNPACKID reads no bit but those: headers that agree on them give the same step. -/
def Obligations.UnpackidIgnoresTheOtherBits : Prop :=
  ∀ (h g : IdBytes) (s : State), h.h1 = g.h1 → (∀ k < 3, h.h2.getLsbD (k + 5) = g.h2.getLsbD (k + 5)) →
    h.h2.getLsbD 3 = g.h2.getLsbD 3 →
    (h.h2.getLsbD 3 = true → (∀ k < 2, h.h2.getLsbD k = g.h2.getLsbD k) ∧ h.h3 = g.h3 ∧ h.h4 = g.h4) →
    exec (.unpackid h) s = exec (.unpackid g) s

/-- R106: unpacking what PACKID wrote gives back the identifier and its width, whatever state the second
command runs in.
The spec marks this as its own inference ("[derived: from R101, R102 and R104]"). -/
def Obligations.UnpackOfPackIsTheIdentifier : Prop :=
  ∀ (id : BitVec 32) (ext : BitVec 1) (s u : State),
    (ext = 0 → id.toNat ≤ 0x7FF) → (ext = 1 → id.toNat ≤ 0x1FFFFFFF) →
    ∃ t v, exec (.packid id ext) s = .next t ∧ t.status = 0 ∧
      exec (.unpackid t.hr.hdr.ident) u = .next v ∧ v.status = 0 ∧
      v.fr.id.toNat = id.toNat ∧ v.fr.ext = ext

/-- R107: packing what UNPACKID read gives the canonical form of the header bytes, every ignored bit
cleared, and the bytes themselves exactly when those bits were clear.
The spec marks this as its own inference ("[derived: from R102, R104 and R105]"). -/
def Obligations.PackOfUnpackIsCanonical : Prop :=
  ∀ (h : IdBytes) (s u : State),
    ∃ t v, exec (.unpackid h) s = .next t ∧
      exec (.packid (t.fr.id.setWidth 32) t.fr.ext) u = .next v ∧ v.status = 0 ∧
      (h.h2.getLsbD 3 = false → v.hr.hdr.ident = ⟨h.h1, h.h2 &&& 0b11100000, 0, 0⟩) ∧
      (h.h2.getLsbD 3 = true → v.hr.hdr.ident = ⟨h.h1, h.h2 &&& 0b11101011, h.h3, h.h4⟩) ∧
      (v.hr.hdr.ident = h ↔ h.h2.getLsbD 4 = false ∧ h.h2.getLsbD 2 = false ∧
        (h.h2.getLsbD 3 = false → h.h2.getLsbD 1 = false ∧ h.h2.getLsbD 0 = false ∧ h.h3 = 0 ∧ h.h4 = 0))

/-! ## The frame codec -/

/-- R120 to R122: ENCODE of a frame in range. The identifier bytes are those PACKID writes; the DLC byte
holds RTR in bit 6 (from general knowledge, as R121 says: log 14) and the length in bits 3:0, the other
bits zero; the first `dlc` bytes are carried in order; `hr_nbytes` is `5 + dlc`. Nothing but HR and what
every completion writes is changed. -/
def Obligations.EncodeWritesTheHeaderAndPayload : Prop :=
  ∀ (id : BitVec 32) (ext rtr : BitVec 1) (dlc : BitVec 4) (data : Payload) (s : State),
    (ext = 0 → id.toNat ≤ 0x7FF) → (ext = 1 → id.toNat ≤ 0x1FFFFFFF) → dlc.toNat ≤ 8 →
    ∃ t, exec (.encode id ext rtr dlc data) s = .next t ∧
      t = { s with status := 0b000, rspOp := 0b011, busy := false, rspValid := true, wait := 0,
                   hr := t.hr } ∧
      (∃ u, exec (.packid id ext) s = .next u ∧ t.hr.hdr.ident = u.hr.hdr.ident) ∧
      t.hr.hdr.h5.toNat = rtr.toNat * 2 ^ 6 + dlc.toNat ∧
      (∀ i : Fin 8, i.val < dlc.toNat → t.hr.pay.lane i = data.lane i) ∧
      t.hr.nbytes.toNat = 5 + dlc.toNat

/-- R120, R125: with the identifier in range, a length above 8 is `DLC_RANGE` and no byte is written. -/
def Obligations.EncodeRejectsALongLength : Prop :=
  ∀ (id : BitVec 32) (ext rtr : BitVec 1) (dlc : BitVec 4) (data : Payload) (s : State),
    (ext = 0 → id.toNat ≤ 0x7FF) → (ext = 1 → id.toNat ≤ 0x1FFFFFFF) → 8 < dlc.toNat →
    exec (.encode id ext rtr dlc data) s = .next { s with
      status := 0b011, rspOp := 0b011, busy := false, rspValid := true, wait := 0 }

/-- R123: RTR sets bit 6 of the DLC byte and changes nothing else the spec gives a value. -/
def Obligations.RemoteFramesAreEncodedLikeDataFrames : Prop :=
  ∀ (id : BitVec 32) (ext : BitVec 1) (dlc : BitVec 4) (data : Payload) (s t u : State),
    exec (.encode id ext 1 dlc data) s = .next t → exec (.encode id ext 0 dlc data) s = .next u →
    t.status = u.status ∧ t.hr.hdr.ident = u.hr.hdr.ident ∧ t.hr.nbytes = u.hr.nbytes ∧
      (t.status = 0 → t.hr.hdr.h5 = u.hr.hdr.h5 ||| 0b01000000 ∧ u.hr.hdr.h5.getLsbD 6 = false ∧
        AgreeBelow dlc.toNat t.hr.pay u.hr.pay)

/-- R108: ENCODE computes header bytes 1 to 4 and the identifier check exactly as PACKID does, and DECODE
computes the identifier exactly as UNPACKID does.
The spec marks this as its own inference ("[derived: from R100 and R104]"). -/
def Obligations.FrameCodecUsesTheIdentifierPacker : Prop :=
  (∀ (id : BitVec 32) (ext rtr : BitVec 1) (dlc : BitVec 4) (data : Payload) (s u t v : State),
    exec (.packid id ext) s = .next t → exec (.encode id ext rtr dlc data) u = .next v →
    (v.status = 0b010 ↔ t.status = 0b010) ∧
      (v.status = 0b000 → t.status = 0b000 ∧ v.hr.hdr.ident = t.hr.hdr.ident)) ∧
  (∀ (hdr : Header) (pay : Payload) (s u t v : State),
    exec (.unpackid hdr.ident) s = .next t → exec (.decode hdr pay) u = .next v →
    v.status = 0b000 → v.fr.id = t.fr.id ∧ v.fr.ext = t.fr.ext)

/-- R126, R127: DECODE of a header with a length of at most 8. The length is `h5[3:0]`, RTR is `h5[6]`
(from general knowledge, R121, log 14),
the first bytes are carried in order, and the identifier is the one UNPACKID reads. Nothing but FR and
what every completion writes is changed. -/
def Obligations.DecodeReadsTheFrame : Prop :=
  ∀ (hdr : Header) (pay : Payload) (s : State), hdr.h5.toNat % 2 ^ 4 ≤ 8 →
    ∃ t, exec (.decode hdr pay) s = .next t ∧
      t = { s with status := 0b000, rspOp := 0b100, busy := false, rspValid := true, wait := 0,
                   fr := t.fr } ∧
      (∃ u, exec (.unpackid hdr.ident) s = .next u ∧ t.fr.id = u.fr.id ∧ t.fr.ext = u.fr.ext) ∧
      t.fr.rtr.getLsbD 0 = hdr.h5.getLsbD 6 ∧ t.fr.dlc.toNat = hdr.h5.toNat % 2 ^ 4 ∧
      (∀ i : Fin 8, i.val < hdr.h5.toNat % 2 ^ 4 → t.fr.data.lane i = pay.lane i)

/-- R128: a length field of 9 to 15 is `DLC_RANGE`, and FR is unchanged. -/
def Obligations.DecodeRejectsALongLength : Prop :=
  ∀ (hdr : Header) (pay : Payload) (s : State), 8 < hdr.h5.toNat % 2 ^ 4 →
    exec (.decode hdr pay) s = .next { s with
      status := 0b011, rspOp := 0b100, busy := false, rspValid := true, wait := 0 }

/-- R129: bits 7, 5 and 4 of the DLC byte, the identifier bits R105 lists and the payload from the length
on reach no result that the spec gives a value, and raise no status. -/
def Obligations.DecodeIgnoresTheOtherBits : Prop :=
  ∀ (h g : Header) (p q : Payload) (s u t v : State),
    h.ident.h1 = g.ident.h1 → (∀ k < 3, h.ident.h2.getLsbD (k + 5) = g.ident.h2.getLsbD (k + 5)) →
    h.ident.h2.getLsbD 3 = g.ident.h2.getLsbD 3 →
    (h.ident.h2.getLsbD 3 = true → (∀ k < 2, h.ident.h2.getLsbD k = g.ident.h2.getLsbD k) ∧
      h.ident.h3 = g.ident.h3 ∧ h.ident.h4 = g.ident.h4) →
    h.h5.toNat % 2 ^ 4 = g.h5.toNat % 2 ^ 4 → h.h5.getLsbD 6 = g.h5.getLsbD 6 →
    AgreeBelow (h.h5.toNat % 2 ^ 4) p q →
    exec (.decode h p) s = .next t → exec (.decode g q) u = .next v →
    t.status = v.status ∧ (t.status = 0 → t.fr.id = v.fr.id ∧ t.fr.ext = v.fr.ext ∧
      t.fr.rtr = v.fr.rtr ∧ t.fr.dlc = v.fr.dlc ∧ AgreeBelow t.fr.dlc.toNat t.fr.data v.fr.data)

/-- R130: decoding what ENCODE wrote gives back the frame: identifier, width, remote flag, length and the
first `dlc` bytes, whatever state the second command runs in and whatever the free bytes are.
The spec marks this as its own inference ("[derived: from R120, R121, R126 and R106]"). -/
def Obligations.DecodeOfEncodeIsTheFrame : Prop :=
  ∀ (id : BitVec 32) (ext rtr : BitVec 1) (dlc : BitVec 4) (data : Payload) (s u : State),
    (ext = 0 → id.toNat ≤ 0x7FF) → (ext = 1 → id.toNat ≤ 0x1FFFFFFF) → dlc.toNat ≤ 8 →
    ∃ t v, exec (.encode id ext rtr dlc data) s = .next t ∧ t.status = 0 ∧
      exec (.decode t.hr.hdr t.hr.pay) u = .next v ∧ v.status = 0 ∧
      v.fr.id.toNat = id.toNat ∧ v.fr.ext = ext ∧ v.fr.rtr = rtr ∧ v.fr.dlc = dlc ∧
      AgreeBelow dlc.toNat v.fr.data data

/-- R131: encoding what DECODE read gives the canonical form of the header, every ignored bit of R105 and
R129 cleared, and the first bytes of the payload; a header with those bits clear comes back whole.
The spec marks this as its own inference ("[derived: from R120, R126, R129 and R107]"). -/
def Obligations.EncodeOfDecodeIsCanonical : Prop :=
  ∀ (hdr : Header) (pay : Payload) (s u : State), hdr.h5.toNat % 2 ^ 4 ≤ 8 →
    ∃ t v, exec (.decode hdr pay) s = .next t ∧ t.status = 0 ∧
      exec (.encode (t.fr.id.setWidth 32) t.fr.ext t.fr.rtr t.fr.dlc t.fr.data) u = .next v ∧
      v.status = 0 ∧ v.hr.hdr.h5 = hdr.h5 &&& 0b01001111 ∧
      (hdr.ident.h2.getLsbD 3 = false →
        v.hr.hdr.ident = ⟨hdr.ident.h1, hdr.ident.h2 &&& 0b11100000, 0, 0⟩) ∧
      (hdr.ident.h2.getLsbD 3 = true →
        v.hr.hdr.ident = ⟨hdr.ident.h1, hdr.ident.h2 &&& 0b11101011, hdr.ident.h3, hdr.ident.h4⟩) ∧
      AgreeBelow (hdr.h5.toNat % 2 ^ 4) v.hr.pay pay ∧
      v.hr.nbytes.toNat = 5 + hdr.h5.toNat % 2 ^ 4 ∧
      (hdr.h5 &&& 0b10110000#8 = 0 → CanonicalId hdr.ident → v.hr.hdr = hdr)

/-! ## Every command -/

/-- R66: a reserved op completes with `ILLEGAL_OP` and shows its own value, whatever its operands and the
state; it writes no group and changes nothing else. -/
def Obligations.ReservedOpsCompleteAsIllegal : Prop :=
  (∀ s : State, exec .rsvd101 s = .next { s with
    status := 0b111, rspOp := 0b101, busy := false, rspValid := true, wait := 0 }) ∧
  (∀ (x : BitVec 1) (s : State), exec (.rsvd11x x) s = .next { s with
    status := 0b111, rspOp := 0b11#2 ++ x, busy := false, rspValid := true, wait := 0 }) ∧
  (∀ (c : Command) (s : State), 5 ≤ c.op.toNat → exec (decode c) s = .next { s with
    status := 0b111, rspOp := c.op, busy := false, rspValid := true, wait := 0 })

/-- R151, R153: each non-`OK` status comes from its row's condition and from nothing else; when a command
meets several, the order of R153 decides. The reserved codes are never produced, and an error records the
op and its status and writes no result. -/
def Obligations.EachStatusHasItsCause : Prop :=
  ∀ (i : Instr) (s t : State), exec i s = .next t →
    (t.status = 0b001 ↔ ∃ kbps osc sjw, i = .calcTiming kbps osc sjw ∧
      (kbps = 0 ∨ osc = 0 ∨ firstFit kbps.toNat osc.toNat = none ∨
        ∃ brp bt, firstFit kbps.toNat osc.toNat = some (brp, bt) ∧
          ¬ ((segmentsOf bt).prseg + (segmentsOf bt).phseg1 ≥ (segmentsOf bt).phseg2 ∧
            (segmentsOf bt).phseg2 > (clampSjw sjw.toNat : Int)))) ∧
    (t.status = 0b010 ↔ ∃ id ext, (i = .packid id ext ∨ ∃ rtr dlc data, i = .encode id ext rtr dlc data) ∧
      ((ext = 0 ∧ 0x7FF < id.toNat) ∨ (ext = 1 ∧ 0x1FFFFFFF < id.toNat))) ∧
    (t.status = 0b011 ↔
      (∃ id ext rtr dlc data, i = .encode id ext rtr dlc data ∧ 8 < dlc.toNat ∧
        ((ext = 0 ∧ id.toNat ≤ 0x7FF) ∨ (ext = 1 ∧ id.toNat ≤ 0x1FFFFFFF))) ∨
      ∃ hdr pay, i = .decode hdr pay ∧ 8 < hdr.h5.toNat % 2 ^ 4) ∧
    (t.status = 0b111 ↔ 5 ≤ i.op.toNat) ∧
    (t.status ≠ 0b100 ∧ t.status ≠ 0b101 ∧ t.status ≠ 0b110) ∧
    (t.status ≠ 0b000 → t.rspOp = i.op ∧ t.tr = s.tr ∧ t.hr = s.hr ∧ t.fr = s.fr)

/-- R154: the completing edge of a failed command writes `status`, `rsp_op` and the handshake as a
successful one does, and nothing else. -/
def Obligations.AFailedCommandWritesNoGroup : Prop :=
  ∀ (i : Instr) (s t : State), exec i s = .next t → t.status ≠ 0 →
    t = { s with status := t.status, rspOp := i.op, busy := false, rspValid := true, wait := 0 }

/-- R34: the frame of every command. Each op writes the fields of its own group and no others, and the
latch, the host's inputs and the model's own fields are left alone. -/
def Obligations.EachOpWritesItsOwnGroupOnly : Prop :=
  ∀ (i : Instr) (s : State), ∃ t, exec i s = .next t ∧
    t.rspOp = i.op ∧ t.busy = false ∧ t.rspValid = true ∧ t.wait = 0 ∧
    t.pend = s.pend ∧ t.inputs = s.inputs ∧ t.edge = s.edge ∧ t.live = s.live ∧
    (i.op ≠ 0b000 → t.tr = s.tr) ∧
    (i.op ≠ 0b001 → i.op ≠ 0b011 → t.hr = s.hr) ∧
    (i.op = 0b001 → t.hr.hdr.h5 = s.hr.hdr.h5 ∧ t.hr.pay = s.hr.pay ∧ t.hr.nbytes = s.hr.nbytes) ∧
    (i.op ≠ 0b010 → i.op ≠ 0b100 → t.fr = s.fr) ∧
    (i.op = 0b010 → t.fr.rtr = s.fr.rtr ∧ t.fr.dlc = s.fr.dlc ∧ t.fr.data = s.fr.data)

/-- R32, R42: the outcome of a command depends on its own operands alone. Whatever two states it runs
in, the status and every result field that is written with a specified value are the same. -/
def Obligations.OutcomeDependsOnOperandsAlone : Prop :=
  ∀ (i : Instr) (s u t v : State), exec i s = .next t → exec i u = .next v →
    t.status = v.status ∧ t.rspOp = v.rspOp ∧ (t.status = 0 →
      (i.op = 0b000 → t.tr = v.tr) ∧
      (i.op = 0b001 → t.hr.hdr.ident = v.hr.hdr.ident) ∧
      (i.op = 0b010 → t.fr.id = v.fr.id ∧ t.fr.ext = v.fr.ext) ∧
      (i.op = 0b011 → t.hr.hdr = v.hr.hdr ∧ t.hr.nbytes = v.hr.nbytes ∧
        AgreeBelow (t.hr.hdr.h5.toNat % 2 ^ 4) t.hr.pay v.hr.pay) ∧
      (i.op = 0b100 → t.fr.id = v.fr.id ∧ t.fr.ext = v.fr.ext ∧ t.fr.rtr = v.fr.rtr ∧
        t.fr.dlc = v.fr.dlc ∧ AgreeBelow t.fr.dlc.toNat t.fr.data v.fr.data))

/-! ## Before the first reset edge -/

/-- R173: before the first reset edge nothing of the block is known. No element, no input and no result
reaches an output port: two blocks that were not reset show the same ports at the same reading after the
same edge, whatever they hold. That their ports are equal, where hardware may show any values, is the form
of the model's free values (log 15); only a reset edge ends this, and then the block is as reset leaves it. -/
def Obligations.NothingShowsBeforeTheFirstReset : Prop :=
  (∀ (s t : State) (k : Nat), s.live = false → t.live = false → s.edge = t.edge →
    s.outputs k = t.outputs k) ∧
  (∀ s t : State, s.live = false → step s = .next t →
    s.portsNow.rst = true ∧ t.live = true ∧ State.reset.SameBlock t)
end

