-- ==== Sys2Proof/Laws/State.lean ====
section
/-! SUPPORT. What each operation of Machine/Ops.lean leaves in each field of State: one lemma per field and
operation, so that no later proof unfolds a record update. -/

namespace Sys2Proof.Machine

variable (s : State)

@[simp] theorem State.tick_busy : (s.tick).busy = s.busy := rfl
@[simp] theorem State.tick_rspValid : (s.tick).rspValid = s.rspValid := rfl
@[simp] theorem State.tick_pend : (s.tick).pend = s.pend := rfl
@[simp] theorem State.tick_wait : (s.tick).wait = s.wait := rfl
@[simp] theorem State.tick_status : (s.tick).status = s.status := rfl
@[simp] theorem State.tick_rspOp : (s.tick).rspOp = s.rspOp := rfl
@[simp] theorem State.tick_tr : (s.tick).tr = s.tr := rfl
@[simp] theorem State.tick_hr : (s.tick).hr = s.hr := rfl
@[simp] theorem State.tick_fr : (s.tick).fr = s.fr := rfl
@[simp] theorem State.tick_inputs : (s.tick).inputs = s.inputs.tail := rfl
@[simp] theorem State.tick_edge : (s.tick).edge = s.edge + 1 := rfl
@[simp] theorem State.tick_live : (s.tick).live = s.live := rfl

@[simp] theorem State.toReset_busy : (s.toReset).busy = false := rfl
@[simp] theorem State.toReset_rspValid : (s.toReset).rspValid = false := rfl
@[simp] theorem State.toReset_pend : (s.toReset).pend = Command.zero := rfl
@[simp] theorem State.toReset_wait : (s.toReset).wait = 0 := rfl
@[simp] theorem State.toReset_status : (s.toReset).status = 0 := rfl
@[simp] theorem State.toReset_rspOp : (s.toReset).rspOp = 0 := rfl
@[simp] theorem State.toReset_tr : (s.toReset).tr = TimingResult.reset := rfl
@[simp] theorem State.toReset_hr : (s.toReset).hr = HeaderResult.reset := rfl
@[simp] theorem State.toReset_fr : (s.toReset).fr = FrameResult.reset := rfl
@[simp] theorem State.toReset_inputs : (s.toReset).inputs = s.inputs := rfl
@[simp] theorem State.toReset_edge : (s.toReset).edge = s.edge := rfl
@[simp] theorem State.toReset_live : (s.toReset).live = true := rfl

@[simp] theorem State.accept_busy (c : Command) : (s.accept c).busy = true := rfl
@[simp] theorem State.accept_rspValid (c : Command) : (s.accept c).rspValid = false := rfl
@[simp] theorem State.accept_pend (c : Command) : (s.accept c).pend = c := rfl
@[simp] theorem State.accept_wait (c : Command) : (s.accept c).wait = s.latencyDraw := rfl
@[simp] theorem State.accept_status (c : Command) : (s.accept c).status = s.status := rfl
@[simp] theorem State.accept_rspOp (c : Command) : (s.accept c).rspOp = s.rspOp := rfl
@[simp] theorem State.accept_tr (c : Command) : (s.accept c).tr = s.tr := rfl
@[simp] theorem State.accept_hr (c : Command) : (s.accept c).hr = s.hr := rfl
@[simp] theorem State.accept_fr (c : Command) : (s.accept c).fr = s.fr := rfl
@[simp] theorem State.accept_inputs (c : Command) : (s.accept c).inputs = s.inputs := rfl
@[simp] theorem State.accept_edge (c : Command) : (s.accept c).edge = s.edge := rfl
@[simp] theorem State.accept_live (c : Command) : (s.accept c).live = s.live := rfl

@[simp] theorem State.countDown_busy : (s.countDown).busy = s.busy := rfl
@[simp] theorem State.countDown_rspValid : (s.countDown).rspValid = s.rspValid := rfl
@[simp] theorem State.countDown_pend : (s.countDown).pend = s.pend := rfl
@[simp] theorem State.countDown_wait : (s.countDown).wait = s.wait - 1 := rfl
@[simp] theorem State.countDown_status : (s.countDown).status = s.status := rfl
@[simp] theorem State.countDown_rspOp : (s.countDown).rspOp = s.rspOp := rfl
@[simp] theorem State.countDown_tr : (s.countDown).tr = s.tr := rfl
@[simp] theorem State.countDown_hr : (s.countDown).hr = s.hr := rfl
@[simp] theorem State.countDown_fr : (s.countDown).fr = s.fr := rfl
@[simp] theorem State.countDown_inputs : (s.countDown).inputs = s.inputs := rfl
@[simp] theorem State.countDown_edge : (s.countDown).edge = s.edge := rfl
@[simp] theorem State.countDown_live : (s.countDown).live = s.live := rfl

@[simp] theorem State.complete_busy (op : BitVec 3) (st : Status) : (s.complete op st).busy = false := rfl
@[simp] theorem State.complete_rspValid (op : BitVec 3) (st : Status) : (s.complete op st).rspValid = true := rfl
@[simp] theorem State.complete_pend (op : BitVec 3) (st : Status) : (s.complete op st).pend = s.pend := rfl
@[simp] theorem State.complete_wait (op : BitVec 3) (st : Status) : (s.complete op st).wait = 0 := rfl
@[simp] theorem State.complete_status (op : BitVec 3) (st : Status) : (s.complete op st).status = st.code := rfl
@[simp] theorem State.complete_rspOp (op : BitVec 3) (st : Status) : (s.complete op st).rspOp = op := rfl
@[simp] theorem State.complete_tr (op : BitVec 3) (st : Status) : (s.complete op st).tr = s.tr := rfl
@[simp] theorem State.complete_hr (op : BitVec 3) (st : Status) : (s.complete op st).hr = s.hr := rfl
@[simp] theorem State.complete_fr (op : BitVec 3) (st : Status) : (s.complete op st).fr = s.fr := rfl
@[simp] theorem State.complete_inputs (op : BitVec 3) (st : Status) : (s.complete op st).inputs = s.inputs := rfl
@[simp] theorem State.complete_edge (op : BitVec 3) (st : Status) : (s.complete op st).edge = s.edge := rfl
@[simp] theorem State.complete_live (op : BitVec 3) (st : Status) : (s.complete op st).live = s.live := rfl

@[simp] theorem State.writeTiming_busy (r : TimingResult) : (s.writeTiming r).busy = s.busy := rfl
@[simp] theorem State.writeTiming_rspValid (r : TimingResult) : (s.writeTiming r).rspValid = s.rspValid := rfl
@[simp] theorem State.writeTiming_pend (r : TimingResult) : (s.writeTiming r).pend = s.pend := rfl
@[simp] theorem State.writeTiming_wait (r : TimingResult) : (s.writeTiming r).wait = s.wait := rfl
@[simp] theorem State.writeTiming_status (r : TimingResult) : (s.writeTiming r).status = s.status := rfl
@[simp] theorem State.writeTiming_rspOp (r : TimingResult) : (s.writeTiming r).rspOp = s.rspOp := rfl
@[simp] theorem State.writeTiming_tr (r : TimingResult) : (s.writeTiming r).tr = r := rfl
@[simp] theorem State.writeTiming_hr (r : TimingResult) : (s.writeTiming r).hr = s.hr := rfl
@[simp] theorem State.writeTiming_fr (r : TimingResult) : (s.writeTiming r).fr = s.fr := rfl
@[simp] theorem State.writeTiming_inputs (r : TimingResult) : (s.writeTiming r).inputs = s.inputs := rfl
@[simp] theorem State.writeTiming_edge (r : TimingResult) : (s.writeTiming r).edge = s.edge := rfl
@[simp] theorem State.writeTiming_live (r : TimingResult) : (s.writeTiming r).live = s.live := rfl

@[simp] theorem State.writeIdBytes_busy (h : IdBytes) : (s.writeIdBytes h).busy = s.busy := rfl
@[simp] theorem State.writeIdBytes_rspValid (h : IdBytes) : (s.writeIdBytes h).rspValid = s.rspValid := rfl
@[simp] theorem State.writeIdBytes_pend (h : IdBytes) : (s.writeIdBytes h).pend = s.pend := rfl
@[simp] theorem State.writeIdBytes_wait (h : IdBytes) : (s.writeIdBytes h).wait = s.wait := rfl
@[simp] theorem State.writeIdBytes_status (h : IdBytes) : (s.writeIdBytes h).status = s.status := rfl
@[simp] theorem State.writeIdBytes_rspOp (h : IdBytes) : (s.writeIdBytes h).rspOp = s.rspOp := rfl
@[simp] theorem State.writeIdBytes_tr (h : IdBytes) : (s.writeIdBytes h).tr = s.tr := rfl
@[simp] theorem State.writeIdBytes_hr (h : IdBytes) : (s.writeIdBytes h).hr = { s.hr with hdr := ⟨h, s.hr.hdr.h5⟩ } := rfl
@[simp] theorem State.writeIdBytes_fr (h : IdBytes) : (s.writeIdBytes h).fr = s.fr := rfl
@[simp] theorem State.writeIdBytes_inputs (h : IdBytes) : (s.writeIdBytes h).inputs = s.inputs := rfl
@[simp] theorem State.writeIdBytes_edge (h : IdBytes) : (s.writeIdBytes h).edge = s.edge := rfl
@[simp] theorem State.writeIdBytes_live (h : IdBytes) : (s.writeIdBytes h).live = s.live := rfl

@[simp] theorem State.writeHeader_busy (r : HeaderResult) : (s.writeHeader r).busy = s.busy := rfl
@[simp] theorem State.writeHeader_rspValid (r : HeaderResult) : (s.writeHeader r).rspValid = s.rspValid := rfl
@[simp] theorem State.writeHeader_pend (r : HeaderResult) : (s.writeHeader r).pend = s.pend := rfl
@[simp] theorem State.writeHeader_wait (r : HeaderResult) : (s.writeHeader r).wait = s.wait := rfl
@[simp] theorem State.writeHeader_status (r : HeaderResult) : (s.writeHeader r).status = s.status := rfl
@[simp] theorem State.writeHeader_rspOp (r : HeaderResult) : (s.writeHeader r).rspOp = s.rspOp := rfl
@[simp] theorem State.writeHeader_tr (r : HeaderResult) : (s.writeHeader r).tr = s.tr := rfl
@[simp] theorem State.writeHeader_hr (r : HeaderResult) : (s.writeHeader r).hr = r := rfl
@[simp] theorem State.writeHeader_fr (r : HeaderResult) : (s.writeHeader r).fr = s.fr := rfl
@[simp] theorem State.writeHeader_inputs (r : HeaderResult) : (s.writeHeader r).inputs = s.inputs := rfl
@[simp] theorem State.writeHeader_edge (r : HeaderResult) : (s.writeHeader r).edge = s.edge := rfl
@[simp] theorem State.writeHeader_live (r : HeaderResult) : (s.writeHeader r).live = s.live := rfl

@[simp] theorem State.writeIdent_busy (r : BitVec 29 × BitVec 1) : (s.writeIdent r).busy = s.busy := rfl
@[simp] theorem State.writeIdent_rspValid (r : BitVec 29 × BitVec 1) : (s.writeIdent r).rspValid = s.rspValid := rfl
@[simp] theorem State.writeIdent_pend (r : BitVec 29 × BitVec 1) : (s.writeIdent r).pend = s.pend := rfl
@[simp] theorem State.writeIdent_wait (r : BitVec 29 × BitVec 1) : (s.writeIdent r).wait = s.wait := rfl
@[simp] theorem State.writeIdent_status (r : BitVec 29 × BitVec 1) : (s.writeIdent r).status = s.status := rfl
@[simp] theorem State.writeIdent_rspOp (r : BitVec 29 × BitVec 1) : (s.writeIdent r).rspOp = s.rspOp := rfl
@[simp] theorem State.writeIdent_tr (r : BitVec 29 × BitVec 1) : (s.writeIdent r).tr = s.tr := rfl
@[simp] theorem State.writeIdent_hr (r : BitVec 29 × BitVec 1) : (s.writeIdent r).hr = s.hr := rfl
@[simp] theorem State.writeIdent_fr (r : BitVec 29 × BitVec 1) : (s.writeIdent r).fr = { s.fr with id := r.1, ext := r.2 } := rfl
@[simp] theorem State.writeIdent_inputs (r : BitVec 29 × BitVec 1) : (s.writeIdent r).inputs = s.inputs := rfl
@[simp] theorem State.writeIdent_edge (r : BitVec 29 × BitVec 1) : (s.writeIdent r).edge = s.edge := rfl
@[simp] theorem State.writeIdent_live (r : BitVec 29 × BitVec 1) : (s.writeIdent r).live = s.live := rfl

@[simp] theorem State.writeFrame_busy (r : FrameResult) : (s.writeFrame r).busy = s.busy := rfl
@[simp] theorem State.writeFrame_rspValid (r : FrameResult) : (s.writeFrame r).rspValid = s.rspValid := rfl
@[simp] theorem State.writeFrame_pend (r : FrameResult) : (s.writeFrame r).pend = s.pend := rfl
@[simp] theorem State.writeFrame_wait (r : FrameResult) : (s.writeFrame r).wait = s.wait := rfl
@[simp] theorem State.writeFrame_status (r : FrameResult) : (s.writeFrame r).status = s.status := rfl
@[simp] theorem State.writeFrame_rspOp (r : FrameResult) : (s.writeFrame r).rspOp = s.rspOp := rfl
@[simp] theorem State.writeFrame_tr (r : FrameResult) : (s.writeFrame r).tr = s.tr := rfl
@[simp] theorem State.writeFrame_hr (r : FrameResult) : (s.writeFrame r).hr = s.hr := rfl
@[simp] theorem State.writeFrame_fr (r : FrameResult) : (s.writeFrame r).fr = r := rfl
@[simp] theorem State.writeFrame_inputs (r : FrameResult) : (s.writeFrame r).inputs = s.inputs := rfl
@[simp] theorem State.writeFrame_edge (r : FrameResult) : (s.writeFrame r).edge = s.edge := rfl
@[simp] theorem State.writeFrame_live (r : FrameResult) : (s.writeFrame r).live = s.live := rfl

end Sys2Proof.Machine
end

