-- ==== Sys2Proof/Laws/Ops.lean ====
section
/-! SUPPORT. One lemma per shared operation: all it can do. Proofs cite these and unfold nothing. -/

namespace Sys2Proof.Machine

/-! ## Payload lanes -/

@[simp] theorem lane_ofLanes (f : Fin 8 → Byte) (i : Fin 8) : (Payload.ofLanes f).lane i = f i := by
  fin_cases i <;> rfl

theorem payload_eq_of_lanes {p q : Payload} (h : ∀ i, p.lane i = q.lane i) : p = q :=
  Payload.ext (h 0) (h 1) (h 2) (h 3) (h 4) (h 5) (h 6) (h 7)

theorem lane_carriedLanes (dlc : BitVec 4) (src : Payload) (free : Fin 8 → Byte) (i : Fin 8) :
    (carriedLanes dlc src free).lane i = if i.val < dlc.toNat then src.lane i else free i := by
  simp [carriedLanes, unsigned]

/-! ## Range checks -/

theorem idInRange_standard (id : BitVec 32) : idInRange id 0 = true ↔ id.toNat ≤ 0x7FF := by
  simp [idInRange, unsigned]

theorem idInRange_extended (id : BitVec 32) : idInRange id 1 = true ↔ id.toNat ≤ 0x1FFFFFFF := by
  simp [idInRange, unsigned]

theorem dlcInRange_iff (dlc : BitVec 4) : dlcInRange dlc = true ↔ dlc.toNat ≤ 8 := by
  simp [dlcInRange, unsigned]

/-- A one-bit field is 0 or 1. -/
theorem bit_cases (b : BitVec 1) : b = 0 ∨ b = 1 := by
  revert b; decide

/-! ## The latency draw -/

theorem maxLatency_pos : 1 ≤ Config.maxLatency := by simp [Config.maxLatency]

theorem latencyDraw_pos (s : State) : 1 ≤ s.latencyDraw := by simp [State.latencyDraw]

theorem latencyDraw_le (s : State) : s.latencyDraw ≤ Config.maxLatency :=
  Nat.mod_lt _ maxLatency_pos

/-! ## Completions -/

@[simp] theorem conclude_ok {α : Type} (op : BitVec 3) (res : α) (write : α → State → State) (s : State) :
    conclude op (.ok res) write s = write res (s.complete op .ok) := rfl

@[simp] theorem conclude_raise {α : Type} (op : BitVec 3) (st : Status) (write : α → State → State)
    (s : State) : conclude op (.raise st) write s = s.complete op st := rfl

/-- A completion either writes its group under `OK`, or writes no group. -/
theorem conclude_cases {α : Type} (op : BitVec 3) (r : Reply α) (write : α → State → State) (s : State) :
    (∃ res, r = .ok res ∧ conclude op r write s = write res (s.complete op .ok)) ∨
    (∃ st, r = .raise st ∧ conclude op r write s = s.complete op st) := by
  cases r with
  | ok res => exact .inl ⟨res, rfl, rfl⟩
  | raise st => exact .inr ⟨st, rfl, rfl⟩

/-! ## Pure functions: when each raises -/

theorem packId_cases (id : BitVec 32) (ext : BitVec 1) :
    (idInRange id ext = true ∧ packId id ext = .ok (layoutId id ext)) ∨
    (idInRange id ext = false ∧ packId id ext = .raise .idRange) := by
  unfold packId
  cases h : idInRange id ext <;> simp

/-- ENCODE's three outcomes, in the order the checks are made. -/
theorem encodeFrame_cases (id : BitVec 32) (ext rtr : BitVec 1) (dlc : BitVec 4) (data : Payload)
    (free : Fin 8 → Byte) :
    (idInRange id ext = true ∧ dlcInRange dlc = true ∧ encodeFrame id ext rtr dlc data free =
      .ok ⟨⟨layoutId id ext, dlcByte rtr dlc⟩, carriedLanes dlc data free, frameBytes dlc⟩) ∨
    (idInRange id ext = false ∧ encodeFrame id ext rtr dlc data free = .raise .idRange) ∨
    (idInRange id ext = true ∧ dlcInRange dlc = false ∧
      encodeFrame id ext rtr dlc data free = .raise .dlcRange) := by
  unfold encodeFrame packId
  cases h : idInRange id ext <;> cases h' : dlcInRange dlc <;> simp

/-- DECODE's two outcomes. -/
theorem decodeFrame_cases (hdr : Header) (pay : Payload) (free : Fin 8 → Byte) :
    (dlcInRange (dlcField hdr.h5) = true ∧ decodeFrame hdr pay free =
      .ok ⟨(readId hdr.ident).1, (readId hdr.ident).2, rtrField hdr.h5, dlcField hdr.h5,
        carriedLanes (dlcField hdr.h5) pay free⟩) ∨
    (dlcInRange (dlcField hdr.h5) = false ∧ decodeFrame hdr pay free = .raise .dlcRange) := by
  unfold decodeFrame
  cases h : dlcInRange (dlcField hdr.h5) <;> simp [h]

theorem calcExact_raises {kbps osc sjwIn : Nat} {st : Status} (h : calcExact kbps osc sjwIn = .raise st) :
    st = .timingInfeasible := by
  unfold calcExact judge at h
  split at h
  · cases h; rfl
  · split at h
    · split at h <;> cases h; rfl
    · cases h; rfl

/-- CALC's two outcomes. -/
theorem timingOf_cases (kbps : BitVec 16) (osc sjwIn : BitVec 8) :
    (∃ c, calcExact kbps.toNat osc.toNat sjwIn.toNat = .ok c ∧ timingOf kbps osc sjwIn = .ok c.narrow) ∨
    (calcExact kbps.toNat osc.toNat sjwIn.toNat = .raise .timingInfeasible ∧
      timingOf kbps osc sjwIn = .raise .timingInfeasible) := by
  unfold timingOf unsigned
  cases h : calcExact kbps.toNat osc.toNat sjwIn.toNat with
  | ok c => exact .inl ⟨c, rfl, rfl⟩
  | raise st => cases calcExact_raises h; exact .inr ⟨rfl, rfl⟩

end Sys2Proof.Machine
end

