-- ==== Sys2Proof/Laws/Outputs.lean ====
section
/-! SUPPORT. What the host sees at the output ports, said once: of a block that was reset, with a result
shown and without one, and of a block before its first reset edge. -/

namespace Sys2Proof.Machine

variable {s : State} (read : Nat)

@[simp] theorem cmdReady_of_live (hl : s.live = true) : s.cmdReady read = !s.busy := by
  simp [State.cmdReady, State.handshakePort, hl]

@[simp] theorem rspValidPort_of_live (hl : s.live = true) : s.rspValidPort read = s.rspValid := by
  simp [State.rspValidPort, State.handshakePort, hl]

/-- While a result is shown, every port shows its element (R22). -/
theorem outputs_of_result (hl : s.live = true) (hv : s.rspValid = true) :
    s.outputs read = ⟨!s.busy, true, s.rspOp, s.status, s.tr, s.hr, s.fr⟩ := by
  simp [State.outputs, State.drivenOutputs, hl, hv]

/-- While none is, only the handshake ports show their elements (R41). -/
theorem outputs_of_no_result (hv : s.rspValid = false) :
    s.outputs read = s.unspecifiedOutputs read := by
  simp [State.outputs, hv]

@[simp] theorem outputs_cmdReady : (s.outputs read).cmdReady = s.cmdReady read := by
  unfold State.outputs; split <;> rfl

@[simp] theorem outputs_rspValid : (s.outputs read).rspValid = s.rspValidPort read := by
  unfold State.outputs; split <;> rfl

/-- Before the first reset edge no element reaches a port: the outputs are free values of the edge and the
reading alone (R173, log 15). -/
theorem outputs_unreset {t : State} (hs : s.live = false) (ht : t.live = false) (he : s.edge = t.edge) :
    s.outputs read = t.outputs read := by
  simp [State.outputs, State.unspecifiedOutputs, State.cmdReady, State.rspValidPort,
    State.handshakePort, State.freePayload, State.freeOutput, hs, ht, he]

end Sys2Proof.Machine
end

