-- ==== Sys2Proof/Laws/PerInstr.lean ====
section
/-! SUPPORT. The family `OpField`, one lemma per command: the encoder puts the op of the command's row on
`cmd_op` and that row covers it (30_encoding.md R61). -/

namespace Sys2Proof.Laws.OpField

/-- The op field carries the op of `i`, and the row named for `i` covers it, whatever the other ports. -/
def Statement (i : Instr) : Prop :=
  ∀ rest : Command, (encodeOnto rest i).op = i.op ∧
    ∃ r ∈ opTable, r.name = i.rowName ∧ r.covers (encodeOnto rest i).op = true

theorem calcTiming (kbps : BitVec 16) (osc sjw : BitVec 8) : Statement (.calcTiming kbps osc sjw) :=
  fun _ => ⟨rfl, ⟨"CALC", 0b111, 0b000⟩, by decide, rfl,
    (by decide : OpRow.covers ⟨"CALC", 0b111, 0b000⟩ opCalc = true)⟩

theorem packid (id : BitVec 32) (ext : BitVec 1) : Statement (.packid id ext) :=
  fun _ => ⟨rfl, ⟨"PACKID", 0b111, 0b001⟩, by decide, rfl,
    (by decide : OpRow.covers ⟨"PACKID", 0b111, 0b001⟩ opPackid = true)⟩

theorem unpackid (hdr : IdBytes) : Statement (.unpackid hdr) :=
  fun _ => ⟨rfl, ⟨"UNPACKID", 0b111, 0b010⟩, by decide, rfl,
    (by decide : OpRow.covers ⟨"UNPACKID", 0b111, 0b010⟩ opUnpackid = true)⟩

theorem encode (id : BitVec 32) (ext rtr : BitVec 1) (dlc : BitVec 4) (data : Payload) :
    Statement (.encode id ext rtr dlc data) :=
  fun _ => ⟨rfl, ⟨"ENCODE", 0b111, 0b011⟩, by decide, rfl,
    (by decide : OpRow.covers ⟨"ENCODE", 0b111, 0b011⟩ opEncode = true)⟩

theorem decode (hdr : Header) (pay : Payload) : Statement (.decode hdr pay) :=
  fun _ => ⟨rfl, ⟨"DECODE", 0b111, 0b100⟩, by decide, rfl,
    (by decide : OpRow.covers ⟨"DECODE", 0b111, 0b100⟩ opDecode = true)⟩

theorem rsvd101 : Statement .rsvd101 :=
  fun _ => ⟨rfl, ⟨"RSVD_101", 0b111, 0b101⟩, by decide, rfl,
    (by decide : OpRow.covers ⟨"RSVD_101", 0b111, 0b101⟩ opRsvd101 = true)⟩

theorem rsvd11x (x : BitVec 1) : Statement (.rsvd11x x) := by
  intro rest
  refine ⟨rfl, ⟨"RSVD_11x", 0b110, 0b110⟩, by decide, rfl, ?_⟩
  show OpRow.covers _ (opRsvd11x x) = true
  revert x
  decide

end Sys2Proof.Laws.OpField
end

