-- ==== Sys2Proof/Laws/Step.lean ====
section
/-! SUPPORT. What one step can do, said once: the cases of the step relation (10_state.md R35), each with
its guards and its outcome. -/

namespace Sys2Proof.Machine

variable {s : State}

theorem step_reset (h : s.portsNow.rst = true) : step s = .next s.tick.toReset := by
  simp [step, risingEdge, h]

theorem step_unreset (h : s.portsNow.rst = false) (hl : s.live = false) :
    step s = .refused .beforeFirstReset := by
  simp [step, risingEdge, h, hl]

theorem step_wait (h : s.portsNow.rst = false) (hl : s.live = true) (hb : s.busy = true)
    (hw : 1 < s.wait) : step s = .next s.tick.countDown := by
  simp [step, risingEdge, h, hl, hb, hw]

theorem step_complete (h : s.portsNow.rst = false) (hl : s.live = true) (hb : s.busy = true)
    (hw : s.wait ≤ 1) : step s = exec (decode s.pend) s.tick := by
  simp [step, risingEdge, h, hl, hb, State.pending, Nat.not_lt.mpr hw]

theorem step_accept (h : s.portsNow.rst = false) (hl : s.live = true) (hb : s.busy = false)
    (hv : s.portsNow.cmdValid = true) : step s = .next (s.tick.accept s.portsNow.cmd) := by
  simp [step, risingEdge, h, hl, hb, hv]

theorem step_idle (h : s.portsNow.rst = false) (hl : s.live = true) (hb : s.busy = false)
    (hv : s.portsNow.cmdValid = false) : step s = .next s.tick := by
  simp [step, risingEdge, h, hl, hb, hv]

/-- Every command completes: `exec` answers a next state, in one of the two ways of a completion. -/
theorem exec_next (i : Instr) (s : State) : ∃ t, exec i s = .next t := by
  cases i <;> exact ⟨_, rfl⟩

/-- The cases of a step that answers a next state. -/
theorem step_cases {t : State} (h : step s = .next t) :
    (s.portsNow.rst = true ∧ t = s.tick.toReset) ∨
    (s.portsNow.rst = false ∧ s.live = true ∧ s.busy = true ∧ 1 < s.wait ∧ t = s.tick.countDown) ∨
    (s.portsNow.rst = false ∧ s.live = true ∧ s.busy = true ∧ s.wait ≤ 1 ∧
      exec (decode s.pend) s.tick = .next t) ∨
    (s.portsNow.rst = false ∧ s.live = true ∧ s.busy = false ∧ s.portsNow.cmdValid = true ∧
      t = s.tick.accept s.portsNow.cmd) ∨
    (s.portsNow.rst = false ∧ s.live = true ∧ s.busy = false ∧ s.portsNow.cmdValid = false ∧
      t = s.tick) := by
  cases hr : s.portsNow.rst with
  | true => rw [step_reset hr] at h; cases h; simp
  | false =>
    cases hl : s.live with
    | false => rw [step_unreset hr hl] at h; cases h
    | true =>
      cases hb : s.busy with
      | true =>
        rcases Nat.lt_or_ge 1 s.wait with hw | hw
        · rw [step_wait hr hl hb hw] at h; cases h; simp [hw]
        · rw [step_complete hr hl hb hw] at h; simp [hw, h]
      | false =>
        cases hv : s.portsNow.cmdValid with
        | true => rw [step_accept hr hl hb hv] at h; cases h; simp
        | false => rw [step_idle hr hl hb hv] at h; cases h; simp

end Sys2Proof.Machine
end

