-- ==== Sys2Proof/Tests/Slice0.lean ====
section
/-! SUPPORT. The model's own tests. Every expected value is a value of spec/ (the rule or the vector is
cited), never the model's answer. Then a witness for the hypotheses of each statement of
Certificates/Slice0/Obligations.lean. -/

open Sys2Proof Sys2Proof.Machine

namespace Sys2Proof.Tests

/-! ## Ill-formed terms, one for each check of WellFormed.lean -/

/-- Ports of R21, all zero. -/
def goodPorts : RawPorts where
  rst := ⟨1, 0⟩
  cmdValid := ⟨1, 0⟩
  op := ⟨3, 0⟩
  kbps := ⟨16, 0⟩
  osc := ⟨8, 0⟩
  sjw := ⟨8, 0⟩
  id := ⟨32, 0⟩
  ext := ⟨1, 0⟩
  rtr := ⟨1, 0⟩
  dlc := ⟨4, 0⟩
  data := List.replicate 8 ⟨8, 0⟩
  hdr := List.replicate 5 ⟨8, 0⟩
  pay := List.replicate 8 ⟨8, 0⟩

theorem test_wf_ports_of_the_spec : goodPorts.wellFormed = true := by decide

/-- One port of another form at a time: a port of another width, a number its wires cannot carry, another
count of bytes (R160, U11). -/
theorem test_wf_refuses_each_port :
    [{ goodPorts with rst := ⟨2, 0⟩ }, { goodPorts with cmdValid := ⟨0, 0⟩ },
     { goodPorts with op := ⟨4, 0⟩ }, { goodPorts with op := ⟨3, 8⟩ },
     { goodPorts with kbps := ⟨8, 0⟩ }, { goodPorts with osc := ⟨16, 0⟩ },
     { goodPorts with sjw := ⟨3, 0⟩ }].all (fun r => !r.wellFormed) = true ∧
    [{ goodPorts with id := ⟨29, 0⟩ }, { goodPorts with ext := ⟨1, 2⟩ },
     { goodPorts with rtr := ⟨2, 0⟩ }, { goodPorts with dlc := ⟨4, 16⟩ },
     { goodPorts with data := [⟨8, 0⟩] }, { goodPorts with hdr := List.replicate 4 ⟨8, 0⟩ },
     { goodPorts with hdr := List.replicate 5 ⟨8, 256⟩ },
     { goodPorts with pay := List.replicate 9 ⟨8, 0⟩ }].all (fun r => !r.wellFormed) = true := by
  decide

/-- The rejection names the port (R160). -/
theorem test_connect_rejects_by_name :
    ({ goodPorts with op := ⟨3, 8⟩ }).connect = .error (.tooLarge .cmdOp) ∧
    ({ goodPorts with op := ⟨4, 8⟩ }).connect = .error (.wrongWidth .cmdOp) ∧
    ({ goodPorts with hdr := [] }).connect = .error (.wrongCount .hdr) := ⟨rfl, rfl, rfl⟩

/-- An operand given twice, a value or a list out of range, a number where a list belongs, a reserved op
that is none, `op` on another command, RSVD without it (R69). -/
theorem test_wf_refuses_each_line :
    [(⟨.calcTiming, [(.kbps, .num 1), (.kbps, .num 1)]⟩ : TextLine),
     ⟨.calcTiming, [(.kbps, .num 65536)]⟩, ⟨.calcTiming, [(.osc, .num 256)]⟩,
     ⟨.calcTiming, [(.sjw, .num 256)]⟩, ⟨.packid, [(.id, .num (2 ^ 32))]⟩, ⟨.packid, [(.ext, .num 2)]⟩,
     ⟨.encode, [(.rtr, .num 2)]⟩, ⟨.encode, [(.dlc, .num 16)]⟩].all (fun l => !l.wellFormed) = true ∧
    [(⟨.encode, [(.data, .bytes [256])]⟩ : TextLine), ⟨.encode, [(.data, .bytes (List.replicate 9 0))]⟩,
     ⟨.decode, [(.hdr, .bytes (List.replicate 6 0))]⟩, ⟨.decode, [(.pay, .bytes (List.replicate 9 0))]⟩,
     ⟨.decode, [(.pay, .num 0)]⟩, ⟨.rsvd, [(.op, .num 4)]⟩, ⟨.calcTiming, [(.op, .num 5)]⟩,
     ⟨.rsvd, []⟩].all (fun l => !l.wellFormed) = true := by
  decide

/-! ## Decoding: words written out from the op map (R61) and the port widths (R21), in the order of log 9 -/

/-- `CALC kbps=500 osc=16 sjw=1` (95 S1): sjw, osc, kbps, op. -/
theorem test_decode_calc :
    decodeTableWord 40 0b00000001_00010000_0000000111110100_000 = some (.calcTiming 500 16 1) := by decide

/-- `PACKID id=0x18DAF110 ext=1` (95 V2): ext, id, then 32 bits of the ports of CALC, op. -/
theorem test_decode_packid :
    decodeTableWord 72 (0b1_00011000110110101111000100010000 * 2 ^ 35 + 0b001) =
      some (.packid 0x18DAF110 1) := by decide

/-- `UNPACKID hdr=[0x91, 0xA8, 0x56, 0x78]` (95 V3): `hdr` stands in bits 176:137, byte 1 on top. -/
theorem test_decode_unpackid :
    decodeTableWord 184 (0x91A8567800 * 2 ^ 137 + 0b010) = some (.unpackid ⟨0x91, 0xA8, 0x56, 0x78⟩) := by
  decide

/-- `ENCODE id=0x123 ext=0 rtr=1 dlc=2 data=[0xAA, 0xBB]`: data in bits 136:73, dlc 72:69, rtr 68. -/
theorem test_decode_encode :
    decodeTableWord 144 (0xAABB000000000000 * 2 ^ 73 + 0b0010_1_0 * 2 ^ 67 + 0x123 * 2 ^ 35 + 0b011) =
      some (.encode 0x123 0 1 2 ⟨0xAA, 0xBB, 0, 0, 0, 0, 0, 0⟩) := by decide

/-- `DECODE hdr=[0x24, 0x60, 0, 0, 2] pay=[0xAA, 0xBB]` (95 V5): pay in bits 240:177. -/
theorem test_decode_decode :
    decodeTableWord 248 (0xAABB000000000000 * 2 ^ 177 + 0x2460000002 * 2 ^ 137 + 0b100) =
      some (.decode ⟨⟨0x24, 0x60, 0, 0⟩, 2⟩ ⟨0xAA, 0xBB, 0, 0, 0, 0, 0, 0⟩) := by decide

theorem test_decode_reserved :
    decodeTableWord 8 0b101 = some .rsvd101 ∧ decodeTableWord 8 0b110 = some (.rsvd11x 0) ∧
    decodeTableWord 8 0b111 = some (.rsvd11x 1) := by decide

/-- A number of more bits than a command has is rejected (R160). -/
theorem test_decode_rejects_too_many_bits :
    decodeTableWord 8 256 = none ∧ decodeTableWord 248 (2 ^ 241) = none := by decide

/-- The rows of the table never overlap. -/
theorem test_rows_do_not_overlap :
    opTable.Pairwise (fun a b => ∀ op : BitVec 3, (a.covers op && b.covers op) = false) := by decide

/-- R54's own example: `in_hdr[1]` is bits 39:32, `in_hdr[5]` is bits 7:0 (95, `in_hdr[1..5]=0x2460000002`). -/
theorem test_flat_header : Header.flat ⟨⟨0x24, 0x60, 0, 0⟩, 2⟩ = 0x2460000002 := by decide

/-! ## One command each -/

/-- The state after `i` completes in `s`. -/
def after (i : Instr) (s : State) : State :=
  match exec i s with
  | .next t => t
  | .fault _ => s
  | .refused _ => s

/-- A state whose groups hold other values, so that "unchanged" can be seen. -/
def marked : State :=
  { State.reset with
    tr := ⟨1, 2, 3, 4, 5, 6⟩
    hr := ⟨⟨⟨1, 2, 3, 4⟩, 5⟩, ⟨6, 7, 8, 9, 10, 11, 12, 13⟩, 7⟩
    fr := ⟨9, 1, 1, 3, ⟨1, 2, 3, 4, 5, 6, 7, 8⟩⟩ }

/-- 95 V1: BT = 32 at prescaler 0 is skipped. -/
theorem test_calc_skips_large_bt :
    (after (.calcTiming 250 16 1) marked).tr = ⟨1, 5, 5, 5, 1, 16⟩ ∧
    (after (.calcTiming 250 16 1) marked).status = 0 := by decide

/-- 95 V1: BT = 4 fails the first check, and TR is unchanged. -/
theorem test_calc_infeasible_keeps_tr :
    (after (.calcTiming 1000 8 1) marked).tr = marked.tr ∧
    (after (.calcTiming 1000 8 1) marked).status = 0b001 ∧
    (after (.calcTiming 65535 255 1) marked).status = 0b001 := by decide

/-- 95 V2: every field non-zero; only bytes 1 to 4 are written. -/
theorem test_packid_extended :
    (after (.packid 0x12345678 1) marked).hr =
      ⟨⟨⟨0x91, 0xA8, 0x56, 0x78⟩, 5⟩, marked.hr.pay, 7⟩ := by decide

/-- 95 V2: one above the standard range. -/
theorem test_packid_out_of_range :
    (after (.packid 0x800 0) marked).hr = marked.hr ∧ (after (.packid 0x800 0) marked).status = 0b010 := by
  decide

/-- 95 V3: EXIDE set with `h2[4]` and `h2[2]` set; only `fr_id` and `fr_ext` are written. -/
theorem test_unpackid_extended :
    (after (.unpackid ⟨0x24, 0x7F, 0xAB, 0xCD⟩) marked).fr =
      ⟨0x48FABCD, 1, 1, 3, marked.fr.data⟩ := by decide

/-- 95 V3: EXIDE clear, the other bits ignored. -/
theorem test_unpackid_standard :
    (after (.unpackid ⟨0xFF, 0xF7, 0x12, 0x34⟩) marked).fr.id = 0x7FF ∧
    (after (.unpackid ⟨0xFF, 0xF7, 0x12, 0x34⟩) marked).fr.ext = 0 := by decide

/-- 95 V4: remote standard frame with 4 bytes. -/
theorem test_encode_remote :
    (after (.encode 0x456 0 1 4 ⟨1, 2, 3, 4, 5, 6, 7, 8⟩) marked).hr.hdr = ⟨⟨0x8A, 0xC0, 0, 0⟩, 0x44⟩ ∧
    (after (.encode 0x456 0 1 4 ⟨1, 2, 3, 4, 5, 6, 7, 8⟩) marked).hr.nbytes = 9 ∧
    (after (.encode 0x456 0 1 4 ⟨1, 2, 3, 4, 5, 6, 7, 8⟩) marked).hr.pay.b3 = 4 := by decide

/-- 95 V4: both out of range, `ID_RANGE` first; and a length of 9. -/
theorem test_encode_errors :
    (after (.encode 0x800 0 0 9 Payload.zero) marked).status = 0b010 ∧
    (after (.encode 0x123 0 0 9 Payload.zero) marked).status = 0b011 ∧
    (after (.encode 0x123 0 0 9 Payload.zero) marked).hr = marked.hr := by decide

/-- 95 V5: bits 7, 5 and 4 of `h5` are ignored. -/
theorem test_decode_frame :
    (after (.decode ⟨⟨0x24, 0x60, 0, 0⟩, 0xB8⟩ ⟨0, 1, 2, 3, 4, 5, 6, 7⟩) marked).fr =
      ⟨0x123, 0, 0, 8, ⟨0, 1, 2, 3, 4, 5, 6, 7⟩⟩ := by decide

/-- 95 V5: a length field of 15, although the RTR bit is set. -/
theorem test_decode_long :
    (after (.decode ⟨⟨0x24, 0x60, 0, 0⟩, 0x4F⟩ Payload.zero) marked).status = 0b011 ∧
    (after (.decode ⟨⟨0x24, 0x60, 0, 0⟩, 0x4F⟩ Payload.zero) marked).fr = marked.fr := by decide

/-- 95 V6. -/
theorem test_reserved_ops :
    (after .rsvd101 marked).status = 0b111 ∧ (after .rsvd101 marked).rspOp = 0b101 ∧
    (after (.rsvd11x 0) marked).rspOp = 0b110 ∧ (after (.rsvd11x 1) marked).rspOp = 0b111 ∧
    (after (.rsvd11x 1) marked).hr = marked.hr := by decide

/-! ## One edge each (95 V7) -/

/-- The state after one edge. -/
def edgeAfter (s : State) : State :=
  match step s with
  | .next t => t
  | .fault _ => s
  | .refused _ => s

/-- The command `RSVD op=6` on the ports. -/
def offered : Command := { Command.zero with op := 0b110, kbps := 500 }

/-- A host that offers it. -/
def offer : Ports := ⟨false, true, offered⟩

/-- The pending command with `wait` edges left, and what the host drives. -/
def pendingState (wait : Nat) (ins : List Ports) : State :=
  { marked with busy := true, pend := offered, wait := wait, inputs := ins }

/-- H3. -/
theorem test_edge_accepts :
    (edgeAfter { marked with rspValid := true, inputs := [offer] }).busy = true ∧
    (edgeAfter { marked with rspValid := true, inputs := [offer] }).rspValid = false ∧
    (edgeAfter { marked with rspValid := true, inputs := [offer] }).pend = offered ∧
    (edgeAfter { marked with rspValid := true, inputs := [offer] }).hr = marked.hr := by decide

/-- H4: the offered command is not taken. -/
theorem test_edge_waits :
    edgeAfter (pendingState 3 [⟨false, true, Command.zero⟩]) =
      { pendingState 2 [] with edge := 1 } := by decide

/-- H5, H8. -/
theorem test_edge_completes :
    (edgeAfter (pendingState 1 [])).status = 0b111 ∧ (edgeAfter (pendingState 1 [])).rspOp = 0b110 ∧
    (edgeAfter (pendingState 1 [])).busy = false ∧ (edgeAfter (pendingState 1 [])).rspValid = true := by
  decide

/-- H6: a reset edge abandons the pending command; H2: an idle edge changes nothing. -/
theorem test_edge_resets_or_idles :
    edgeAfter (pendingState 2 [⟨true, true, offered⟩]) = { State.reset with edge := 1 } ∧
    edgeAfter { marked with rspValid := true } = { marked with rspValid := true, edge := 1 } := by decide

/-- R173: nothing but a reset edge is answered before the first one. -/
theorem test_unreset_block_refuses :
    (step { marked with live := false, inputs := [offer] } matches .refused .beforeFirstReset) = true ∧
    (step { marked with live := false, inputs := [⟨true, false, offered⟩] } matches .next _) = true := by
  decide

/-- A placed word runs as the first command after reset (log 8). -/
theorem test_placed_word_runs :
    (edgeAfter (State.reset.withFetchWord 8 0b111)).rspOp = 0b111 ∧
    (edgeAfter (State.reset.withFetchWord 8 0b000)).status = 0b001 := by decide

/-- R22, R33: the ports of a completed command. -/
theorem test_outputs :
    ((after .rsvd101 marked).outputs 0).rspStatus = 0b111 ∧
    ((after .rsvd101 marked).outputs 0).cmdReady = true ∧
    ((pendingState 2 []).outputs 0).cmdReady = false := by decide

/-! ## The text form -/

/-- A line of R69, its operands in any order. -/
theorem test_text_reads_a_line :
    Text.readLine "ENCODE dlc=0b10 id=0x123 ext=0 rtr=0 data=[0xAA, 187]".toList =
      .ok ⟨.encode, [(.dlc, .num 2), (.id, .num 0x123), (.ext, .num 0), (.rtr, .num 0),
        (.data, .bytes [0xAA, 0xBB])]⟩ := by rfl

/-- What is no line of R69 is rejected by name. -/
theorem test_text_rejects :
    Text.readLine "CALCS kbps=1".toList = .error .noMnemonic ∧
    Text.readLine "CALC baud=1".toList = .error .unknownOperand ∧
    Text.readLine "CALC kbps=0b12".toList = .error .badValue ∧
    Text.readLine "ENCODE data=[1,]".toList = .error .badForm := ⟨rfl, rfl, rfl, rfl⟩

/-- R70: a short list leaves the other lanes at the unspecified values. -/
theorem test_text_assembles_short_list :
    Text.assemble { Command.zero with data := ⟨9, 9, 9, 9, 9, 9, 9, 9⟩ }
        ⟨.encode, [(.dlc, .num 2), (.data, .bytes [0xAA, 0xBB])]⟩ =
      .ok { Command.zero with op := 0b011, dlc := 2, data := ⟨0xAA, 0xBB, 9, 9, 9, 9, 9, 9⟩ } := rfl

/-- R72's own example, and an encoding of 95 V5. -/
theorem test_text_encoding :
    Text.encodingOf (.calcTiming 500 16 1) =
      "cmd_op=0b000 in_kbps=0x01F4 in_osc=0x10 in_sjw=0x01".toList ∧
    Text.encodingOf (.decode ⟨⟨0xC6, 0xCA, 0xF1, 0x10⟩, 0x83⟩ ⟨0x02, 0x01, 0x0D, 0, 0, 0, 0, 0⟩) =
      "cmd_op=0b100 in_hdr[1..5]=0xC6CAF11083 in_pay[0..2]=0x02010D".toList := ⟨rfl, rfl⟩

/-! ## A witness for the hypotheses of each statement -/

/-- Each clause, at its op value. -/
theorem witness_OpFieldSelectsCommand :
    ∀ op : BitVec 3, ({ Command.zero with op := op } : Command).op = op := fun _ => rfl

theorem witness_FlattenedPortsKeepLowestIndexMostSignificant : (7 : Nat) < 8 := by decide

theorem witness_OnlyTheDefinedInterfaceFormIsTaken :
    goodPorts.wellFormed = true ∧ ({ goodPorts with op := ⟨4, 0⟩ }).wellFormed = false := by decide

theorem witness_StepRunsTheDecodedCommand :
    (pendingState 1 []).live = true ∧ (pendingState 1 []).portsNow.rst = false ∧
    (pendingState 1 []).busy = true ∧ (pendingState 1 []).wait ≤ 1 := by decide

theorem witness_PlacedWordIsTheNextCommandRun : decodeTableWord 8 0b101 = some .rsvd101 := by decide

theorem witness_ResetEdgeGivesResetValues :
    (pendingState 2 [⟨true, true, offered⟩]).portsNow.rst = true := by decide

/-- One edge after the reset, with a reset again; two edges, with nothing offered. -/
theorem witness_ResetAbandonsThePendingCommand :
    (pendingState 2 [⟨true, true, offered⟩, ⟨true, true, offered⟩, ⟨false, false, offered⟩]).portsNow.rst =
      true ∧
    (∀ p ∈ (pendingState 2 [⟨true, true, offered⟩, ⟨true, true, offered⟩,
        ⟨false, false, offered⟩]).inputs.tail.take 2, p.rst = true ∨ p.cmdValid = false) := by decide

theorem witness_BlockLeavesResetReady :
    (pendingState 2 [⟨true, false, offered⟩, offer]).inputs = ⟨true, false, offered⟩ :: offer :: [] ∧
    offer.rst = false ∧ offer.cmdValid = true := by decide

theorem witness_AcceptLatchesEveryPort :
    ({ marked with inputs := [offer] } : State).live = true ∧
    ({ marked with inputs := [offer] } : State).portsNow.rst = false ∧
    ({ marked with inputs := [offer] } : State).busy = false ∧
    ({ marked with inputs := [offer] } : State).portsNow.cmdValid = true := by decide

theorem witness_LatencyDrawIgnoresTheCommand :
    ∃ t u, marked.busy = false ∧ step { marked with inputs := [offer] } = .next t ∧
      step { marked with inputs := [⟨false, true, Command.zero⟩] } = .next u :=
  ⟨_, _, rfl, rfl, rfl⟩

theorem witness_WaitingEdgeOnlyCountsDown :
    (pendingState 2 []).live = true ∧ (pendingState 2 []).portsNow.rst = false ∧
    (pendingState 2 []).busy = true ∧ 1 < (pendingState 2 []).wait := by decide

theorem witness_IdleEdgesChangeNothing :
    ({ marked with inputs := [⟨false, false, offered⟩, ⟨false, false, Command.zero⟩] } : State).live = true ∧
    marked.busy = false ∧
    (∀ p ∈ [(⟨false, false, offered⟩ : Ports), ⟨false, false, Command.zero⟩].take 3,
      p.rst = false ∧ p.cmdValid = false) := by decide

theorem witness_AcceptedCommandCompletesWithinMaxLatency :
    ({ marked with inputs := [offer] } : State).live = true ∧
    ({ marked with inputs := [offer] } : State).busy = false ∧
    ({ marked with inputs := [offer] } : State).portsNow.rst = false ∧
    ({ marked with inputs := [offer] } : State).portsNow.cmdValid = true ∧
    (∀ p ∈ [offer].take (Config.maxLatency + 1), p.rst = false) := by
  refine ⟨rfl, rfl, rfl, rfl, fun p hp => ?_⟩
  have h : p = offer := by simpa using hp
  rw [h]; rfl

/-- Each way of the first clause, and the second. -/
theorem witness_PortsAreSampledAtTheAcceptingEdgeOnly :
    ((⟨true, true, offered⟩ : Ports).rst = true) ∧ ((pendingState 2 []).busy = true) ∧
    ((⟨false, false, offered⟩ : Ports).cmdValid = false) := by decide

theorem witness_HeldOfferIsAcceptedAgain :
    (pendingState 1 [offer, offer]).inputs = offer :: offer :: [] ∧
    (pendingState 1 [offer, offer]).live = true ∧ (pendingState 1 [offer, offer]).busy = true ∧
    (pendingState 1 [offer, offer]).wait ≤ 1 ∧ offer.rst = false ∧ offer.cmdValid = true := by decide

/-- A pending command in the invariant: one edge left, over the groups of reset. -/
def legalPending : State :=
  { State.reset with busy := true, pend := offered, wait := 1 }

theorem legalPending_inv : legalPending.Inv where
  live := rfl
  busy_wait := fun _ => ⟨Nat.le_refl 1, maxLatency_pos⟩
  idle_wait := fun h => by cases h
  busy_hides := fun _ => rfl
  status := ⟨.ok, rfl, by show (0 : BitVec 3).toNat ≤ 4; decide⟩
  timing := .inl rfl
  header := ⟨rfl, .inl ⟨rfl, rfl⟩⟩
  frame := ⟨fun _ => by decide, by decide⟩

theorem witness_HandshakeBitsFollowAcceptanceAndCompletion :
    ∃ t, legalPending.Inv ∧ step legalPending = .next t := ⟨_, legalPending_inv, rfl⟩

theorem witness_EveryStepKeepsTheInvariant :
    ∃ t, legalPending.Inv ∧ step legalPending = .next t ∧ t.status = 0b111 :=
  ⟨_, legalPending_inv, rfl, rfl⟩

theorem witness_ResultPortsShowTheirElements :
    ({ marked with rspValid := true } : State).live = true ∧
    ({ marked with rspValid := true } : State).rspValid = true := by decide

/-- Both clauses: an accepted configuration, and a rejection. -/
theorem witness_CalcWritesTheExactConfiguration :
    calcExact 500 16 1 = .ok ⟨0, ⟨5, 5, 5⟩, 1, 16⟩ ∧ calcExact 333 16 1 = .raise .timingInfeasible := by
  decide

theorem witness_SjwIsClampedToOneToFour :
    calcExact 500 16 255 = .ok ⟨0, ⟨5, 5, 5⟩, 4, 16⟩ := by decide

theorem witness_ZeroInputsAreInfeasible : 0 < 1 ∧ 0 < 65535 := by decide

theorem witness_BitTimeIsTheExactRational :
    0 < 40 ∧ 0 < 16 ∧ quantaAt 40 16 7 = some 25 ∧ quantaAt 40 16 6 = none := by decide

theorem witness_SearchAnswersTheLeastPrescaler :
    firstFit 40 16 = some (7, 25) ∧ ∀ brp ≤ 7, quantaAt 20 16 brp = none := by decide

theorem witness_SegmentsAreTheFloorsOfTheSource :
    (segmentsOf 1).prseg < 0 ∧ 1 ≤ 1 ∧ (segmentsOf 0).prseg < 0 := by decide

theorem witness_AcceptedConfigurationsAreInBounds :
    calcExact 1000 10 1 = .ok ⟨0, ⟨1, 1, 2⟩, 1, 5⟩ ∧ calcExact 320 16 1 = .ok ⟨0, ⟨8, 8, 8⟩, 1, 25⟩ := by
  decide

/-- `BTmin` of each SJW, with the bit time below it (R90). -/
theorem witness_StoppingAtTheFirstPrescalerLosesNothing :
    [(1, 5), (2, 7), (3, 11), (4, 14)].all (fun (sjw, bt) =>
      decide (1 ≤ sjw ∧ sjw ≤ 4 ∧ bt ≤ 25) && (segmentsOf bt).valid sjw &&
        !(segmentsOf (bt - 1)).valid sjw) = true ∧
    (segmentsOf 25).valid 4 = true := by decide

/-- First clause: 20 kbit/s at 16 MHz needs a prescaler of 15 (95 V1). -/
theorem witness_CalcNeverRounds :
    (∀ brp ≤ 7, ∀ q ≤ 25, 500 * 16 ≠ q * ((brp + 1) * 20)) ∧
    calcExact 1000 10 1 = .ok ⟨0, ⟨1, 1, 2⟩, 1, 5⟩ := by decide

theorem witness_PackidStandardLayout : (0x7FF : BitVec 32).toNat ≤ 0x7FF := by decide

theorem witness_PackidExtendedLayout : (0x1FFFFFFF : BitVec 32).toNat ≤ 0x1FFFFFFF := by decide

/-- Both widths, one above the range. -/
theorem witness_IdentifierOutOfRangeIsRejected :
    ((0 : BitVec 1) = 0 ∧ 0x7FF < (0x800 : BitVec 32).toNat) ∧
    ((1 : BitVec 1) = 1 ∧ 0x1FFFFFFF < (0x20000000 : BitVec 32).toNat) := by decide

/-- Both values of bit 3 of byte 2. -/
theorem witness_UnpackidReadsTheIdentifier :
    (0xF7 : Byte).getLsbD 3 = false ∧ (0x7F : Byte).getLsbD 3 = true := by decide

/-- Two standard headers that differ in every ignored bit, and two extended ones. -/
theorem witness_UnpackidIgnoresTheOtherBits :
    ((∀ k < 3, (0xF7 : Byte).getLsbD (k + 5) = (0xE0 : Byte).getLsbD (k + 5)) ∧
      (0xF7 : Byte).getLsbD 3 = (0xE0 : Byte).getLsbD 3 ∧ ¬ (0xF7 : Byte).getLsbD 3 = true) ∧
    ((∀ k < 3, (0xBC : Byte).getLsbD (k + 5) = (0xA8 : Byte).getLsbD (k + 5)) ∧
      (0xBC : Byte).getLsbD 3 = (0xA8 : Byte).getLsbD 3 ∧
      (∀ k < 2, (0xBC : Byte).getLsbD k = (0xA8 : Byte).getLsbD k)) := by decide

/-- The greatest identifier of each width. -/
theorem witness_UnpackOfPackIsTheIdentifier :
    ((0 : BitVec 1) = 0 → (0x7FF : BitVec 32).toNat ≤ 0x7FF) ∧
    ((0 : BitVec 1) = 1 → (0x7FF : BitVec 32).toNat ≤ 0x1FFFFFFF) ∧
    ((1 : BitVec 1) = 0 → (0x1FFFFFFF : BitVec 32).toNat ≤ 0x7FF) ∧
    ((1 : BitVec 1) = 1 → (0x1FFFFFFF : BitVec 32).toNat ≤ 0x1FFFFFFF) := by decide

theorem witness_PackOfUnpackIsCanonical :
    (0xE0 : Byte).getLsbD 3 = false ∧ (0xEB : Byte).getLsbD 3 = true := by decide

theorem witness_EncodeWritesTheHeaderAndPayload :
    ((1 : BitVec 1) = 0 → (0x1FFFFFFF : BitVec 32).toNat ≤ 0x7FF) ∧
    ((1 : BitVec 1) = 1 → (0x1FFFFFFF : BitVec 32).toNat ≤ 0x1FFFFFFF) ∧ (8 : BitVec 4).toNat ≤ 8 := by
  decide

theorem witness_EncodeRejectsALongLength :
    ((0 : BitVec 1) = 0 → (0x7FF : BitVec 32).toNat ≤ 0x7FF) ∧
    ((0 : BitVec 1) = 1 → (0x7FF : BitVec 32).toNat ≤ 0x1FFFFFFF) ∧ 8 < (9 : BitVec 4).toNat := by decide

theorem witness_RemoteFramesAreEncodedLikeDataFrames :
    ∃ t u, exec (.encode 0x456 0 1 4 Payload.zero) marked = .next t ∧
      exec (.encode 0x456 0 0 4 Payload.zero) marked = .next u ∧ t.status = 0 :=
  ⟨_, _, rfl, rfl, by decide⟩

theorem witness_FrameCodecUsesTheIdentifierPacker :
    (∃ t v, exec (.packid 0x7FF 0) marked = .next t ∧
      exec (.encode 0x7FF 0 0 0 Payload.zero) State.reset = .next v ∧ v.status = 0b000) ∧
    (∃ t v, exec (.unpackid ⟨0x24, 0x60, 0, 0⟩) marked = .next t ∧
      exec (.decode ⟨⟨0x24, 0x60, 0, 0⟩, 8⟩ Payload.zero) State.reset = .next v ∧ v.status = 0b000) :=
  ⟨⟨_, _, rfl, rfl, by decide⟩, ⟨_, _, rfl, rfl, by decide⟩⟩

theorem witness_DecodeReadsTheFrame : (0xB8 : Byte).toNat % 2 ^ 4 ≤ 8 := by decide

theorem witness_DecodeRejectsALongLength : 8 < (0x49 : Byte).toNat % 2 ^ 4 := by decide

/-- Two headers that differ in ignored bits only, with payloads that agree on the two bytes carried. -/
theorem witness_DecodeIgnoresTheOtherBits :
    (∀ k < 3, (0x74 : Byte).getLsbD (k + 5) = (0x60 : Byte).getLsbD (k + 5)) ∧
    (0x74 : Byte).getLsbD 3 = (0x60 : Byte).getLsbD 3 ∧ ¬ (0x74 : Byte).getLsbD 3 = true ∧
    (0xB2 : Byte).toNat % 2 ^ 4 = (0x02 : Byte).toNat % 2 ^ 4 ∧
    (0xB2 : Byte).getLsbD 6 = (0x02 : Byte).getLsbD 6 ∧
    (∀ i : Fin 8, i.val < 2 → Payload.lane ⟨1, 2, 3, 3, 3, 3, 3, 3⟩ i =
      Payload.lane ⟨1, 2, 4, 4, 4, 4, 4, 4⟩ i) ∧
    (∃ t v, exec (.decode ⟨⟨0x24, 0x74, 1, 1⟩, 0xB2⟩ ⟨1, 2, 3, 3, 3, 3, 3, 3⟩) marked = .next t ∧
      exec (.decode ⟨⟨0x24, 0x60, 0, 0⟩, 0x02⟩ ⟨1, 2, 4, 4, 4, 4, 4, 4⟩) State.reset = .next v ∧
      t.status = 0) :=
  ⟨by decide, by decide, by decide, by decide, by decide, by decide, ⟨_, _, rfl, rfl, by decide⟩⟩

theorem witness_DecodeOfEncodeIsTheFrame :
    ((1 : BitVec 1) = 0 → (0x1FFFFFFF : BitVec 32).toNat ≤ 0x7FF) ∧
    ((1 : BitVec 1) = 1 → (0x1FFFFFFF : BitVec 32).toNat ≤ 0x1FFFFFFF) ∧ (8 : BitVec 4).toNat ≤ 8 := by
  decide

/-- The hypothesis, and those of the last clause. -/
theorem witness_EncodeOfDecodeIsCanonical :
    (0x48 : Byte).toNat % 2 ^ 4 ≤ 8 ∧ (0x48 : Byte) &&& 0b10110000#8 = 0 ∧
    CanonicalId ⟨0xFF, 0xEB, 0xFF, 0xFF⟩ ∧ CanonicalId ⟨0xFF, 0xE0, 0, 0⟩ :=
  ⟨by decide, by decide, rfl, rfl⟩

theorem witness_ReservedOpsCompleteAsIllegal :
    5 ≤ ({ Command.zero with op := 0b101 } : Command).op.toNat ∧
    5 ≤ ({ Command.zero with op := 0b111 } : Command).op.toNat := by decide

theorem witness_EachStatusHasItsCause : ∃ t, exec .rsvd101 marked = .next t ∧ t.status = 0b111 :=
  ⟨_, rfl, by decide⟩

theorem witness_AFailedCommandWritesNoGroup :
    ∃ t, exec (.packid 0x800 0) marked = .next t ∧ t.status ≠ 0 := ⟨_, rfl, by decide⟩

/-- One command for each clause of the frame. -/
theorem witness_EachOpWritesItsOwnGroupOnly :
    Instr.op (.packid 0 0) = 0b001 ∧ Instr.op (.unpackid ⟨0, 0, 0, 0⟩) = 0b010 ∧
    Instr.op .rsvd101 ≠ 0b000 ∧ Instr.op .rsvd101 ≠ 0b001 ∧ Instr.op .rsvd101 ≠ 0b010 ∧
    Instr.op .rsvd101 ≠ 0b011 ∧ Instr.op .rsvd101 ≠ 0b100 := by decide

theorem witness_OutcomeDependsOnOperandsAlone :
    ∃ t v, exec (.encode 0x123 0 0 2 Payload.zero) marked = .next t ∧
      exec (.encode 0x123 0 0 2 Payload.zero) State.reset = .next v ∧ t.status = 0 ∧
      Instr.op (.encode 0x123 0 0 2 Payload.zero) = 0b011 := ⟨_, _, rfl, rfl, by decide, by decide⟩

theorem witness_CmdReadyDependsOnStateOnly : (pendingState 2 []).live = true ∧ marked.live = true := by
  decide

/-- Two blocks that were not reset and hold different values, and one at a reset edge. -/
theorem witness_NothingShowsBeforeTheFirstReset :
    ({ marked with live := false } : State).live = false ∧
    ({ State.reset with live := false, busy := true } : State).live = false ∧ marked.edge = State.reset.edge ∧
    ∃ t, step { marked with live := false, inputs := [⟨true, false, offered⟩] } = .next t :=
  ⟨rfl, rfl, rfl, _, rfl⟩

end Sys2Proof.Tests
end

section
/-! PROOFS. The family `10_state`: what an edge does to the state elements of 10_state.md, and on what the
outcome of a command depends. -/

namespace Sys2Proof.Machine

/-! ## What every completion does -/

/-- A property of completions that every group write keeps holds after every command (R34, R38). -/
theorem exec_induction {P : State → Prop} {i : Instr} {s t : State} (h : exec i s = .next t)
    (complete : ∀ st, P (s.complete i.op st))
    (timing : ∀ r u, P u → P (u.writeTiming r)) (idBytes : ∀ r u, P u → P (u.writeIdBytes r))
    (ident : ∀ r u, P u → P (u.writeIdent r)) (header : ∀ r u, P u → P (u.writeHeader r))
    (frame : ∀ r u, P u → P (u.writeFrame r)) : P t := by
  have concluded {α : Type} (r : Reply α) (write : α → State → State)
      (keeps : ∀ res u, P u → P (write res u)) : P (conclude i.op r write s) := by
    cases r with
    | ok res => exact keeps res _ (complete .ok)
    | raise st => exact complete st
  cases i with
  | calcTiming kbps osc sjw => cases h; exact concluded _ _ timing
  | packid id ext => cases h; exact concluded _ _ idBytes
  | unpackid hdr => cases h; exact concluded _ _ ident
  | encode id ext rtr dlc data => cases h; exact concluded _ _ header
  | decode hdr pay => cases h; exact concluded _ _ frame
  | rsvd101 => cases h; exact complete .illegalOp
  | rsvd11x x => cases h; exact complete .illegalOp

/-- What every completion writes beside its status and its group (R38). -/
theorem exec_handshake {i : Instr} {s t : State} (h : exec i s = .next t) :
    t.busy = false ∧ t.rspValid = true ∧ t.wait = 0 ∧ t.rspOp = i.op :=
  exec_induction (P := fun u => u.busy = false ∧ u.rspValid = true ∧ u.wait = 0 ∧ u.rspOp = i.op) h
    (fun _ => ⟨rfl, rfl, rfl, rfl⟩) (fun _ _ hu => hu) (fun _ _ hu => hu) (fun _ _ hu => hu)
    (fun _ _ hu => hu) (fun _ _ hu => hu)

/-! ## Runs and the inputs of their edges -/

theorem run_succ_of_step {s t : State} (h : step s = .next t) (n : Nat) :
    core.run (n + 1) s = core.run n t := by
  have hcore : core.step s = .next t := h
  simp only [Host.Core.run, hcore]

/-- What holds of the next edges' inputs, and of a host that drives nothing, holds of the coming edge's. -/
theorem portsNow_of_take_succ {P : Ports → Prop} (hidle : P Ports.idle) {s : State} {n : Nat}
    (h : ∀ p ∈ s.inputs.take (n + 1), P p) : P s.portsNow := by
  unfold State.portsNow
  cases hi : s.inputs with
  | nil => exact hidle
  | cons p ps => exact h p (by simp [hi])

theorem tick_inputs_of_take_succ {P : Ports → Prop} {s : State} {n : Nat}
    (h : ∀ p ∈ s.inputs.take (n + 1), P p) : ∀ p ∈ s.tick.inputs.take n, P p :=
  fun p hp => h p (List.mem_of_mem_tail (by rwa [← List.drop_one, List.drop_take, List.drop_one]))

theorem State.SameBlock.refl (s : State) : s.SameBlock s :=
  ⟨rfl, rfl, rfl, rfl, rfl, rfl, rfl, rfl, rfl⟩

/-- Taking an edge changes no element of R23. -/
@[simp] theorem sameBlock_tick {s t : State} : s.tick.SameBlock t ↔ s.SameBlock t := Iff.rfl

/-! ## What the codec's outcome depends on -/

theorem agreeBelow_carriedLanes (dlc : BitVec 4) (src : Payload) (free free' : Fin 8 → Byte) :
    AgreeBelow dlc.toNat (carriedLanes dlc src free) (carriedLanes dlc src free') := by
  intro i hi
  simp [lane_carriedLanes, hi]

@[simp] theorem dlcField_dlcByte (rtr : BitVec 1) (dlc : BitVec 4) : dlcField (dlcByte rtr dlc) = dlc := by
  revert rtr dlc; decide

theorem dlcField_toNat (h5 : Byte) : (dlcField h5).toNat = h5.toNat % 2 ^ 4 := by
  simp [dlcField]

/-- Two completions of one op agree in the status, the op and, on `OK`, in every specified value of the
group the op writes (R32). -/
def SameOutcome (op : BitVec 3) (t v : State) : Prop :=
  t.status = v.status ∧ t.rspOp = v.rspOp ∧ (t.status = 0 →
    (op = 0b000 → t.tr = v.tr) ∧
    (op = 0b001 → t.hr.hdr.ident = v.hr.hdr.ident) ∧
    (op = 0b010 → t.fr.id = v.fr.id ∧ t.fr.ext = v.fr.ext) ∧
    (op = 0b011 → t.hr.hdr = v.hr.hdr ∧ t.hr.nbytes = v.hr.nbytes ∧
      AgreeBelow (t.hr.hdr.h5.toNat % 2 ^ 4) t.hr.pay v.hr.pay) ∧
    (op = 0b100 → t.fr.id = v.fr.id ∧ t.fr.ext = v.fr.ext ∧ t.fr.rtr = v.fr.rtr ∧
      t.fr.dlc = v.fr.dlc ∧ AgreeBelow t.fr.dlc.toNat t.fr.data v.fr.data))

theorem status_code_eq_zero {st : Status} : st.code = 0 ↔ st = .ok := by
  cases st <;> decide

section OutcomeInTwoStates

variable (s u : State)

/-- A command that errs reports its error alone. -/
theorem sameOutcome_complete (op : BitVec 3) {st : Status} (h : st ≠ .ok) :
    SameOutcome op (s.complete op st) (u.complete op st) :=
  ⟨rfl, rfl, fun h0 => absurd (status_code_eq_zero.mp h0) h⟩

theorem sameOutcome_calc (kbps : BitVec 16) (osc sjw : BitVec 8) :
    SameOutcome opCalc (conclude opCalc (timingOf kbps osc sjw) State.writeTiming s)
      (conclude opCalc (timingOf kbps osc sjw) State.writeTiming u) := by
  obtain ⟨c, -, hc⟩ | ⟨-, hc⟩ := timingOf_cases kbps osc sjw <;> rw [hc]
  · simp [SameOutcome, opCalc]
  · exact sameOutcome_complete s u _ (by decide)

theorem sameOutcome_packid (id : BitVec 32) (ext : BitVec 1) :
    SameOutcome opPackid (conclude opPackid (packId id ext) State.writeIdBytes s)
      (conclude opPackid (packId id ext) State.writeIdBytes u) := by
  obtain ⟨-, hp⟩ | ⟨-, hp⟩ := packId_cases id ext <;> rw [hp]
  · simp [SameOutcome, opPackid]
  · exact sameOutcome_complete s u _ (by decide)

theorem sameOutcome_unpackid (hdr : IdBytes) :
    SameOutcome opUnpackid ((s.complete opUnpackid .ok).writeIdent (readId hdr))
      ((u.complete opUnpackid .ok).writeIdent (readId hdr)) := by
  simp [SameOutcome, opUnpackid]

/-- The free lanes are the only part of an encoded frame that two edges may give differently (R124). -/
theorem sameOutcome_encode (id : BitVec 32) (ext rtr : BitVec 1) (dlc : BitVec 4) (data : Payload)
    (free free' : Fin 8 → Byte) :
    SameOutcome opEncode (conclude opEncode (encodeFrame id ext rtr dlc data free) State.writeHeader s)
      (conclude opEncode (encodeFrame id ext rtr dlc data free') State.writeHeader u) := by
  unfold encodeFrame
  obtain ⟨-, hp⟩ | ⟨-, hp⟩ := packId_cases id ext <;> simp only [hp]
  · split
    · have hdlc : (dlcByte rtr dlc).toNat % 2 ^ 4 = dlc.toNat := by
        rw [← dlcField_toNat, dlcField_dlcByte]
      have hlanes := agreeBelow_carriedLanes dlc data free free'
      rw [← hdlc] at hlanes
      simpa [SameOutcome, opEncode] using fun _ => hlanes
    · exact sameOutcome_complete s u _ (by decide)
  · exact sameOutcome_complete s u _ (by decide)

/-- The free lanes are the only part of a decoded frame that two edges may give differently (R129). -/
theorem sameOutcome_decode (hdr : Header) (pay : Payload) (free free' : Fin 8 → Byte) :
    SameOutcome opDecode (conclude opDecode (decodeFrame hdr pay free) State.writeFrame s)
      (conclude opDecode (decodeFrame hdr pay free') State.writeFrame u) := by
  unfold decodeFrame
  dsimp only
  split
  · simpa [SameOutcome, opDecode] using fun _ => agreeBelow_carriedLanes _ pay free free'
  · exact sameOutcome_complete s u _ (by decide)

end OutcomeInTwoStates

/-- R32: whatever two states a command completes in, its outcome is the same. -/
theorem exec_sameOutcome {i : Instr} {s u t v : State} (ht : exec i s = .next t)
    (hv : exec i u = .next v) : SameOutcome i.op t v := by
  cases i with
  | calcTiming kbps osc sjw => cases ht; cases hv; exact sameOutcome_calc s u kbps osc sjw
  | packid id ext => cases ht; cases hv; exact sameOutcome_packid s u id ext
  | unpackid hdr => cases ht; cases hv; exact sameOutcome_unpackid s u hdr
  | encode id ext rtr dlc data =>
    cases ht; cases hv; exact sameOutcome_encode s u id ext rtr dlc data _ _
  | decode hdr pay => cases ht; cases hv; exact sameOutcome_decode s u hdr pay _ _
  | rsvd101 => cases ht; cases hv; exact sameOutcome_complete s u _ (by decide)
  | rsvd11x x => cases ht; cases hv; exact sameOutcome_complete s u _ (by decide)

/-! ## The obligations -/

/-- Settles O10: the step of a reset edge is `toReset`, whose fields are the values R40 lists. -/
theorem resetEdgeGivesResetValues : Obligations.ResetEdgeGivesResetValues := by
  intro s hr
  exact ⟨_, step_reset hr, rfl, rfl, rfl, rfl, rfl, rfl, rfl, rfl, rfl⟩

/-- Settles O13: the accepting edge draws its latency in the range R37 gives. -/
theorem acceptLatchesEveryPort : Obligations.AcceptLatchesEveryPort := by
  intro s hl hr hb hv
  exact ⟨s.tick.latencyDraw, latencyDraw_pos _, latencyDraw_le _, step_accept hr hl hb hv⟩

/-- Settles O16, by induction on the number of edges: an idle edge leaves an idle block in the same
elements, with the rest of its inputs to come. -/
theorem idleEdgesChangeNothing : Obligations.IdleEdgesChangeNothing := by
  intro s n
  induction n generalizing s with
  | zero => exact fun _ _ _ => ⟨s, rfl, .refl s⟩
  | succ n ih =>
    intro hl hb hin
    obtain ⟨hr, hv⟩ := portsNow_of_take_succ ⟨rfl, rfl⟩ hin
    obtain ⟨t, hrun, hsame⟩ := ih s.tick hl hb (tick_inputs_of_take_succ hin)
    exact ⟨t, (run_succ_of_step (step_idle hr hl hb hv) n).trans hrun, sameBlock_tick.mp hsame⟩

/-- Settles O20, by the cases of a step. The invariant is needed at a waiting edge, which leaves
`rsp_valid` as the pending command found it: 0. -/
theorem handshakeBitsFollowAcceptanceAndCompletion :
    Obligations.HandshakeBitsFollowAcceptanceAndCompletion := by
  intro s t hinv hstep
  obtain ⟨hr, rfl⟩ | ⟨hr, -, hb, hw, rfl⟩ | ⟨hr, -, hb, hw, hexec⟩ | ⟨hr, -, hb, hv, rfl⟩ |
    ⟨hr, -, hb, hv, rfl⟩ := step_cases hstep
  · simp [hr]
  · simp [hr, hb, hw, hinv.busy_hides hb]
  · obtain ⟨hbusy, hvalid, -, -⟩ := exec_handshake hexec
    simp [hr, hb, hw, hbusy, hvalid]
  · simp [hr, hb, hv]
  · simp [hr, hb, hv]

/-- Settles O57: each op's completions differ between two states in unspecified lanes and in fields the
op does not write. -/
theorem outcomeDependsOnOperandsAlone : Obligations.OutcomeDependsOnOperandsAlone :=
  fun _ _ _ _ _ => exec_sameOutcome

end Sys2Proof.Machine
end

section
/-! PROOFS. The family `20_memory`: the byte arrays of the ports flattened into one vector (20_memory.md
R54). -/

namespace Sys2Proof.Machine

/-! ## Bits of a byte array, counted from its last byte -/

/-- Byte `j + 1` of a vector with a byte joined below it is byte `j` of the vector. -/
theorem getLsbD_append_byte_above {n : Nat} (x : BitVec n) (b : Byte) (j k : Nat) :
    (x ++ b).getLsbD (8 * (j + 1) + k) = x.getLsbD (8 * j + k) := by
  simp [BitVec.getLsbD_append, Nat.mul_add, Nat.add_right_comm]

theorem getLsbD_append_byte_lowest {n k : Nat} (x : BitVec n) (b : Byte) (hk : k < 8) :
    (x ++ b).getLsbD (8 * 0 + k) = b.getLsbD k := by
  simp [BitVec.getLsbD_append, hk]

/-- The bytes after byte `i` are passed one by one; byte 0 has nothing joined above it. -/
theorem getLsbD_flat_payload (p : Payload) (i : Fin 8) {k : Nat} (hk : k < 8) :
    p.flat.getLsbD (8 * (7 - i.val) + k) = (p.lane i).getLsbD k := by
  unfold Payload.flat
  fin_cases i <;> dsimp only [Nat.reduceSub, Payload.lane] <;> repeat rw [getLsbD_append_byte_above]
  · rw [Nat.mul_zero, Nat.zero_add]
  all_goals exact getLsbD_append_byte_lowest _ _ hk

/-! ## Place value -/

/-- Joining two vectors adds by place value: the lower one stays below `2 ^ n`. -/
theorem toNat_append_eq_add {m n : Nat} (x : BitVec m) (y : BitVec n) :
    (x ++ y).toNat = x.toNat * 2 ^ n + y.toNat := by
  rw [BitVec.toNat_append, ← Nat.shiftLeft_add_eq_or_of_lt y.isLt, Nat.shiftLeft_eq]

theorem toNat_flat_header (h : Header) :
    h.flat.toNat = h.ident.h1.toNat * 2 ^ 32 + h.ident.h2.toNat * 2 ^ 24 + h.ident.h3.toNat * 2 ^ 16 +
      h.ident.h4.toNat * 2 ^ 8 + h.h5.toNat := by
  simp only [Header.flat, toNat_append_eq_add]
  omega

/-! ## No bit is lost -/

/-- The eight slices are adjacent, so seven joins give back the whole vector. -/
@[simp] theorem flat_ofFlat_payload (v : BitVec 64) : (Payload.ofFlat v).flat = v := by
  dsimp only [Payload.flat, Payload.ofFlat]
  iterate 7 rw [BitVec.extractLsb'_append_extractLsb'_eq_extractLsb' (by rfl)]
  exact BitVec.extractLsb'_eq_self

/-- The five slices are adjacent, so four joins give back the whole vector. -/
@[simp] theorem flat_ofFlat_header (v : BitVec 40) : (Header.ofFlat v).flat = v := by
  dsimp only [Header.flat, Header.ofFlat]
  iterate 4 rw [BitVec.extractLsb'_append_extractLsb'_eq_extractLsb' (by rfl)]
  exact BitVec.extractLsb'_eq_self

/-! ## The obligation -/

/-- Settles O5: bits of a payload, place values of a header, and adjacent slices joined again. -/
theorem flattenedPortsKeepLowestIndexMostSignificant :
    Obligations.FlattenedPortsKeepLowestIndexMostSignificant :=
  ⟨fun p i _ hk => getLsbD_flat_payload p i hk, toNat_flat_header, flat_ofFlat_payload,
    flat_ofFlat_header⟩

end Sys2Proof.Machine
end

section
/-! PROOFS. The family `30_encoding`: which command each op value selects, and the operands it takes
(30_encoding.md R61 to R64). -/

namespace Sys2Proof.Machine

/-! ## The command of each op (R61)

The ops are distinct, so the test for an op is reached past the failed tests for the ops before it. -/

section CommandOfEachOp

variable {c : Command}

theorem decode_of_op_calc (h : c.op = opCalc) : decode c = .calcTiming c.kbps c.osc c.sjw :=
  if_pos h

theorem decode_of_op_packid (h : c.op = opPackid) : decode c = .packid c.id c.ext := by
  simp [decode, h, opCalc, opPackid]

theorem decode_of_op_unpackid (h : c.op = opUnpackid) : decode c = .unpackid c.hdr.ident := by
  simp [decode, h, opCalc, opPackid, opUnpackid]

theorem decode_of_op_encode (h : c.op = opEncode) :
    decode c = .encode c.id c.ext c.rtr c.dlc c.data := by
  simp [decode, h, opCalc, opPackid, opUnpackid, opEncode]

theorem decode_of_op_decode (h : c.op = opDecode) : decode c = .decode c.hdr c.pay := by
  simp [decode, h, opCalc, opPackid, opUnpackid, opEncode, opDecode]

theorem decode_of_op_rsvd101 (h : c.op = opRsvd101) : decode c = .rsvd101 := by
  simp [decode, h, opCalc, opPackid, opUnpackid, opEncode, opDecode, opRsvd101]

/-- Bits 2 and 1 tell these ops from the six others, and bit 0 is the operand (R66). -/
theorem decode_of_op_rsvd11x {x : BitVec 1} (h : c.op = opRsvd11x x) : decode c = .rsvd11x x := by
  have hother : ∀ y, opRsvd11x y ≠ opCalc ∧ opRsvd11x y ≠ opPackid ∧ opRsvd11x y ≠ opUnpackid ∧
      opRsvd11x y ≠ opEncode ∧ opRsvd11x y ≠ opDecode ∧ opRsvd11x y ≠ opRsvd101 := by decide
  have hbit : ∀ y, (opRsvd11x y).extractLsb' 0 1 = y := by decide
  simp [decode, h, hother x, hbit x]

end CommandOfEachOp

/-! ## The obligation -/

/-- Settles O2: the eight values are the ops of R61, `0b110` and `0b111` being `opRsvd11x` of their
bit 0. -/
theorem opFieldSelectsCommand : Obligations.OpFieldSelectsCommand :=
  fun _ => ⟨decode_of_op_calc, decode_of_op_packid, decode_of_op_unpackid, decode_of_op_encode,
    decode_of_op_decode, decode_of_op_rsvd101, decode_of_op_rsvd11x (x := 0),
    decode_of_op_rsvd11x (x := 1)⟩

end Sys2Proof.Machine
end

section
/-! PROOFS. The family `40_timing_calculator`: the clamp, the search for a prescaler, and what CALC accepts
and writes (40_timing_calculator.md R81 to R88, R93). -/

namespace Sys2Proof.Machine

/-! ## The clamped SJW (R81) -/

theorem clampSjw_eq (v : Nat) : clampSjw v = if v = 0 then 1 else if 5 ≤ v then 4 else v := by
  unfold clampSjw clamp
  split_ifs <;> omega

theorem clampSjw_bounds (v : Nat) : 1 ≤ clampSjw v ∧ clampSjw v ≤ 4 := by
  unfold clampSjw clamp
  omega

@[simp] theorem clampSjw_clampSjw (v : Nat) : clampSjw (clampSjw v) = clampSjw v := by
  unfold clampSjw clamp
  omega

/-! ## The search (R83, R84) -/

/-- A bit time the search takes is exact: the division left no remainder. -/
theorem quantaAt_exact {kbps osc brp bt : Nat} (h : quantaAt kbps osc brp = some bt) :
    bt * ((brp + 1) * kbps) = 500 * osc ∧ bt ≤ 25 := by
  unfold quantaAt at h
  dsimp only at h
  split at h
  case isTrue hfits =>
    cases h
    exact ⟨Nat.div_mul_cancel (Nat.dvd_of_mod_eq_zero hfits.1), hfits.2⟩
  case isFalse => cases h

/-- Trying `0, 1, ..., n - 1` in ascending order stops at the least index that has a value. -/
theorem findSome?_range_eq_some_iff {α : Type} (f : Nat → Option α) (n i : Nat) (x : α) :
    (List.range n).findSome? (fun j => (f j).map (j, ·)) = some (i, x) ↔
      i < n ∧ f i = some x ∧ ∀ j < i, f j = none := by
  induction n with
  | zero => simp
  | succ n ih =>
    have hlast : (List.range (n + 1)).findSome? (fun j => (f j).map (j, ·)) = some (i, x) ↔
        (i < n ∧ f i = some x ∧ ∀ j < i, f j = none) ∨
        ((∀ j < n, f j = none) ∧ f n = some x ∧ n = i) := by
      simp [List.range_succ, Option.or_eq_some_iff, ih]
    rw [hlast, Nat.lt_succ_iff_lt_or_eq]
    constructor
    · rintro (⟨hi, hx, hnone⟩ | ⟨hnone, hx, rfl⟩)
      · exact ⟨.inl hi, hx, hnone⟩
      · exact ⟨.inr rfl, hx, hnone⟩
    · rintro ⟨hi | rfl, hx, hnone⟩
      · exact .inl ⟨hi, hx, hnone⟩
      · exact .inr ⟨hnone, hx, rfl⟩

theorem prescalers_eq_range : prescalers = List.range 8 := by decide

theorem firstFit_eq_some_iff {kbps osc brp bt : Nat} :
    firstFit kbps osc = some (brp, bt) ↔
      brp ≤ 7 ∧ quantaAt kbps osc brp = some bt ∧ ∀ b < brp, quantaAt kbps osc b = none := by
  rw [firstFit, prescalers_eq_range, findSome?_range_eq_some_iff, Nat.lt_succ_iff]

theorem firstFit_eq_none_iff {kbps osc : Nat} :
    firstFit kbps osc = none ↔ ∀ brp ≤ 7, quantaAt kbps osc brp = none := by
  simp [firstFit, prescalers_eq_range, Nat.lt_succ_iff]

/-! ## What the calculator accepts (R84 to R87) -/

theorem calcExact_of_no_fit {kbps osc : Nat} (h : ∀ brp ≤ 7, quantaAt kbps osc brp = none)
    (sjwIn : Nat) : calcExact kbps osc sjwIn = .raise .timingInfeasible := by
  simp [calcExact, firstFit_eq_none_iff.mpr h]

/-- An accepted configuration is the answer of the search, with segments that pass at the clamped SJW. -/
theorem calcExact_accepts {kbps osc sjwIn : Nat} {c : TimingConfig}
    (h : calcExact kbps osc sjwIn = .ok c) :
    firstFit kbps osc = some (c.brp, c.bt) ∧ c.seg = segmentsOf c.bt ∧ c.sjw = clampSjw sjwIn ∧
      c.seg.valid c.sjw = true := by
  unfold calcExact judge at h
  split at h
  · cases h
  · split at h
    · split at h
      case isTrue hfit hvalid => cases h; exact ⟨hfit, rfl, rfl, hvalid⟩
      case isFalse => cases h
    · cases h

theorem Segments.valid_iff {g : Segments} {sjw : Nat} :
    g.valid sjw = true ↔ g.prseg + g.phseg1 ≥ g.phseg2 ∧ g.phseg2 > (sjw : Int) := by
  simp [Segments.valid]

/-- Segments that pass the checks of R86 lie in the ranges of R87: the sample point is at 7/10 of a bit
time of at most 25, and the second check leaves at least two quanta after it. -/
theorem segmentsOf_bounds {bt sjw : Nat} (hbt : bt ≤ 25) (hsjw : 1 ≤ sjw)
    (h : (segmentsOf bt).valid sjw = true) :
    (1 ≤ (segmentsOf bt).prseg ∧ (segmentsOf bt).prseg ≤ 8) ∧
    (1 ≤ (segmentsOf bt).phseg1 ∧ (segmentsOf bt).phseg1 ≤ 8) ∧
    (2 ≤ (segmentsOf bt).phseg2 ∧ (segmentsOf bt).phseg2 ≤ 8) := by
  rw [Segments.valid_iff] at h
  simp only [segmentsOf, samplePoint] at h ⊢
  omega

theorem calcExact_bounds {kbps osc sjwIn : Nat} {c : TimingConfig}
    (h : calcExact kbps osc sjwIn = .ok c) :
    c.brp ≤ 7 ∧ (1 ≤ c.seg.prseg ∧ c.seg.prseg ≤ 8) ∧ (1 ≤ c.seg.phseg1 ∧ c.seg.phseg1 ≤ 8) ∧
      (2 ≤ c.seg.phseg2 ∧ c.seg.phseg2 ≤ 8) ∧ (1 ≤ c.sjw ∧ c.sjw ≤ 4) ∧ c.bt ≤ 25 := by
  obtain ⟨hfit, hseg, hsjw, hvalid⟩ := calcExact_accepts h
  obtain ⟨hbrp, hquanta, -⟩ := firstFit_eq_some_iff.mp hfit
  obtain ⟨-, hbt⟩ := quantaAt_exact hquanta
  have hclamped : 1 ≤ c.sjw ∧ c.sjw ≤ 4 := hsjw ▸ clampSjw_bounds sjwIn
  rw [hseg] at hvalid ⊢
  obtain ⟨hprseg, hphseg1, hphseg2⟩ := segmentsOf_bounds hbt hclamped.1 hvalid
  exact ⟨hbrp, hprseg, hphseg1, hphseg2, hclamped, hbt⟩

/-! ## What CALC writes (R88) -/

/-- Every field of TR is the configuration's own value, as a plain count (R88). -/
def TimingResult.Counts (t : TimingResult) (c : TimingConfig) : Prop :=
  t.brp.toNat = c.brp ∧ (t.prseg.toNat : Int) = c.seg.prseg ∧ (t.phseg1.toNat : Int) = c.seg.phseg1 ∧
    (t.phseg2.toNat : Int) = c.seg.phseg2 ∧ t.sjw.toNat = c.sjw ∧ t.bt.toNat = c.bt

/-- Nothing is lost on the ports of TR: the ranges of R87 lie within their widths. -/
theorem narrow_counts {kbps osc sjwIn : Nat} {c : TimingConfig} (h : calcExact kbps osc sjwIn = .ok c) :
    c.narrow.Counts c := by
  have hbounds := calcExact_bounds h
  simp only [TimingResult.Counts, TimingConfig.narrow, BitVec.toNat_ofNat, BitVec.toNat_ofInt]
  omega

/-! ## The obligations -/

/-- Settles O26, by CALC's two outcomes: an accepted configuration fits TR, and a rejection writes no
group. -/
theorem calcWritesTheExactConfiguration : Obligations.CalcWritesTheExactConfiguration := by
  intro kbps osc sjw s
  refine ⟨conclude opCalc (timingOf kbps osc sjw) State.writeTiming s, rfl, ?_⟩
  obtain ⟨c, hcalc, htiming⟩ | ⟨hcalc, htiming⟩ := timingOf_cases kbps osc sjw <;>
    rw [htiming, hcalc]
  · refine ⟨rfl, ?_, nofun⟩
    rintro _ ⟨⟩
    exact ⟨rfl, narrow_counts hcalc⟩
  · refine ⟨rfl, nofun, ?_⟩
    rintro _ ⟨⟩
    exact ⟨rfl, rfl⟩

/-- Settles O31: the prescalers are tried in ascending order. -/
theorem searchAnswersTheLeastPrescaler : Obligations.SearchAnswersTheLeastPrescaler :=
  fun _ _ => ⟨fun _ _ => firstFit_eq_some_iff, firstFit_eq_none_iff, calcExact_of_no_fit⟩

/-- Settles O36: the search takes exact bit times alone, and an accepted bit time is the search's. -/
theorem calcNeverRounds : Obligations.CalcNeverRounds := by
  refine ⟨fun kbps osc sjwIn hno => calcExact_of_no_fit (fun brp hbrp => ?_) sjwIn,
    fun kbps osc sjwIn c h => ?_⟩
  · refine Option.eq_none_iff_forall_ne_some.mpr fun q hq => ?_
    obtain ⟨hexact, hle⟩ := quantaAt_exact hq
    exact hno brp hbrp q hle hexact.symm
  · obtain ⟨hfit, -, -, -⟩ := calcExact_accepts h
    obtain ⟨-, hquanta, -⟩ := firstFit_eq_some_iff.mp hfit
    exact (quantaAt_exact hquanta).1

/-- Settles O28: clamping twice is clamping once, and an accepted configuration carries the clamped SJW. -/
theorem sjwIsClampedToOneToFour : Obligations.SjwIsClampedToOneToFour := by
  refine ⟨clampSjw_eq, fun kbps osc v => ?_, fun kbps osc v c h => ?_⟩
  · simp only [calcExact, clampSjw_clampSjw]
  · obtain ⟨-, -, hsjw, -⟩ := calcExact_accepts h
    exact hsjw

end Sys2Proof.Machine
end

section
/-! PROOFS. The family `41_identifier_packer`: the range check of PACKID and ENCODE, and the header bits
UNPACKID reads (41_identifier_packer.md R103 to R105). -/

namespace Sys2Proof.Machine

/-! ## The completions -/

theorem exec_packid (id : BitVec 32) (ext : BitVec 1) (s : State) :
    exec (.packid id ext) s = .next (conclude opPackid (packId id ext) State.writeIdBytes s) := rfl

theorem exec_unpackid (h : IdBytes) (s : State) :
    exec (.unpackid h) s = .next ((s.complete opUnpackid .ok).writeIdent (readId h)) := rfl

theorem exec_encode (id : BitVec 32) (ext rtr : BitVec 1) (dlc : BitVec 4) (data : Payload) (s : State) :
    exec (.encode id ext rtr dlc data) s =
      .next (conclude opEncode (encodeFrame id ext rtr dlc data s.freeLanes) State.writeHeader s) := rfl

/-! ## Identifiers out of range (R103, R125) -/

theorem idInRange_of_too_large {id : BitVec 32} {ext : BitVec 1}
    (h : (ext = 0 ∧ 0x7FF < id.toNat) ∨ (ext = 1 ∧ 0x1FFFFFFF < id.toNat)) :
    idInRange id ext = false := by
  obtain ⟨rfl, hid⟩ | ⟨rfl, hid⟩ := h
  · exact Bool.eq_false_iff.mpr fun hfits => hid.not_ge ((idInRange_standard id).mp hfits)
  · exact Bool.eq_false_iff.mpr fun hfits => hid.not_ge ((idInRange_extended id).mp hfits)

theorem packId_of_out_of_range {id : BitVec 32} {ext : BitVec 1} (h : idInRange id ext = false) :
    packId id ext = .raise .idRange := by
  simp [packId, h]

/-- The identifier is checked before the length is looked at. -/
theorem encodeFrame_of_out_of_range {id : BitVec 32} {ext : BitVec 1} (h : idInRange id ext = false)
    (rtr : BitVec 1) (dlc : BitVec 4) (data : Payload) (free : Fin 8 → Byte) :
    encodeFrame id ext rtr dlc data free = .raise .idRange := by
  simp only [encodeFrame, packId_of_out_of_range h]

/-! ## The header bits UNPACKID reads (R104, R105) -/

theorem extractLsb'_eq_of_bits {w : Nat} {x y : BitVec w} (i n : Nat)
    (h : ∀ k < n, x.getLsbD (k + i) = y.getLsbD (k + i)) : x.extractLsb' i n = y.extractLsb' i n := by
  ext k hk
  simpa [Nat.add_comm] using h k hk

theorem extractLsb'_one_eq_ofBool {w : Nat} (x : BitVec w) (i : Nat) :
    x.extractLsb' i 1 = BitVec.ofBool (x.getLsbD i) := by
  ext k hk
  obtain rfl : k = 0 := by omega
  simp

theorem readId_of_standard {h : IdBytes} (hexide : h.h2.getLsbD 3 = false) :
    readId h = ((h.h1 ++ h.h2.extractLsb' 5 3).setWidth 29, 0) := by
  simp only [readId, extractLsb'_one_eq_ofBool, hexide]
  rfl

theorem readId_of_extended {h : IdBytes} (hexide : h.h2.getLsbD 3 = true) :
    readId h = (h.h1 ++ h.h2.extractLsb' 5 3 ++ h.h2.extractLsb' 0 2 ++ h.h3 ++ h.h4, 1) := by
  simp only [readId, extractLsb'_one_eq_ofBool, hexide]
  rfl

/-- The bits R104 names are all that `readId` depends on (R105). -/
theorem readId_congr {h g : IdBytes} (h1 : h.h1 = g.h1)
    (htop : ∀ k < 3, h.h2.getLsbD (k + 5) = g.h2.getLsbD (k + 5))
    (hexide : h.h2.getLsbD 3 = g.h2.getLsbD 3)
    (hrest : h.h2.getLsbD 3 = true →
      (∀ k < 2, h.h2.getLsbD k = g.h2.getLsbD k) ∧ h.h3 = g.h3 ∧ h.h4 = g.h4) :
    readId h = readId g := by
  have hslice : h.h2.extractLsb' 5 3 = g.h2.extractLsb' 5 3 := extractLsb'_eq_of_bits 5 3 htop
  cases hh : h.h2.getLsbD 3 with
  | false => rw [readId_of_standard hh, readId_of_standard (hexide ▸ hh), h1, hslice]
  | true =>
    obtain ⟨hlow, h3, h4⟩ := hrest hh
    rw [readId_of_extended hh, readId_of_extended (hexide ▸ hh), h1, hslice,
      extractLsb'_eq_of_bits 0 2 hlow, h3, h4]

/-! ## The obligations -/

/-- Settles O39: out of range, PACKID and ENCODE both answer `ID_RANGE`, so their completions write no
group. -/
theorem identifierOutOfRangeIsRejected : Obligations.IdentifierOutOfRangeIsRejected := by
  intro id ext s hid
  have hout := idInRange_of_too_large hid
  refine ⟨?_, fun rtr dlc data => ?_⟩
  · rw [exec_packid, packId_of_out_of_range hout, conclude_raise]
    rfl
  · rw [exec_encode, encodeFrame_of_out_of_range hout, conclude_raise]
    rfl

/-- Settles O41: UNPACKID uses its header through `readId` alone. -/
theorem unpackidIgnoresTheOtherBits : Obligations.UnpackidIgnoresTheOtherBits := by
  intro h g s h1 htop hexide hrest
  rw [exec_unpackid, exec_unpackid, readId_congr h1 htop hexide hrest]

end Sys2Proof.Machine
end

section
/-! PROOFS. The family `42_frame_codec`: the remote bit of an encoded frame, and the length check of
DECODE (42_frame_codec.md R121, R123, R128). -/

namespace Sys2Proof.Machine

/-! ## The completion of DECODE -/

theorem exec_decode (hdr : Header) (pay : Payload) (s : State) :
    exec (.decode hdr pay) s =
      .next (conclude opDecode (decodeFrame hdr pay s.freeLanes) State.writeFrame s) := rfl

/-! ## The DLC byte (R121) -/

theorem dlcByte_one (dlc : BitVec 4) : dlcByte 1 dlc = dlcByte 0 dlc ||| 0b01000000 := by
  revert dlc; decide

theorem getLsbD_six_dlcByte_zero (dlc : BitVec 4) : (dlcByte 0 dlc).getLsbD 6 = false := by
  revert dlc; decide

/-! ## Lengths out of range (R128) -/

theorem dlcInRange_of_long {dlc : BitVec 4} (h : 8 < dlc.toNat) : dlcInRange dlc = false :=
  Bool.eq_false_iff.mpr fun hfits => h.not_ge ((dlcInRange_iff dlc).mp hfits)

theorem decodeFrame_of_long {hdr : Header} (h : 8 < (dlcField hdr.h5).toNat) (pay : Payload)
    (free : Fin 8 → Byte) : decodeFrame hdr pay free = .raise .dlcRange := by
  simp [decodeFrame, dlcInRange_of_long h]

/-! ## Remote and data frames (R123) -/

/-- Two completions of ENCODE agree as those of one frame sent as a remote frame (`t`) and as a data frame
(`u`): in every specified value but bit 6 of the DLC byte (R123). -/
def RemoteLikeData (dlc : BitVec 4) (t u : State) : Prop :=
  t.status = u.status ∧ t.hr.hdr.ident = u.hr.hdr.ident ∧ t.hr.nbytes = u.hr.nbytes ∧
    (t.status = 0 → t.hr.hdr.h5 = u.hr.hdr.h5 ||| 0b01000000 ∧ u.hr.hdr.h5.getLsbD 6 = false ∧
      AgreeBelow dlc.toNat t.hr.pay u.hr.pay)

/-- A rejected ENCODE does not show its `rtr`. -/
theorem remoteLikeData_complete (dlc : BitVec 4) (s : State) (op : BitVec 3) {st : Status}
    (h : st ≠ .ok) : RemoteLikeData dlc (s.complete op st) (s.complete op st) :=
  ⟨rfl, rfl, rfl, fun h0 => absurd (status_code_eq_zero.mp h0) h⟩

theorem remoteLikeData_writeHeader (dlc : BitVec 4) (s : State) (h : IdBytes) (p : Payload)
    (n : BitVec 4) :
    RemoteLikeData dlc (s.writeHeader ⟨⟨h, dlcByte 1 dlc⟩, p, n⟩)
      (s.writeHeader ⟨⟨h, dlcByte 0 dlc⟩, p, n⟩) :=
  ⟨rfl, rfl, rfl, fun _ => ⟨dlcByte_one dlc, getLsbD_six_dlcByte_zero dlc, fun _ _ => rfl⟩⟩

/-- Both range checks come out the same for either `rtr`, and an accepted frame holds it in `h5` alone. -/
theorem remoteLikeData_encode (id : BitVec 32) (ext : BitVec 1) (dlc : BitVec 4) (data : Payload)
    (free : Fin 8 → Byte) (s : State) :
    RemoteLikeData dlc
      (conclude opEncode (encodeFrame id ext 1 dlc data free) State.writeHeader s)
      (conclude opEncode (encodeFrame id ext 0 dlc data free) State.writeHeader s) := by
  unfold encodeFrame
  obtain ⟨-, hp⟩ | ⟨-, hp⟩ := packId_cases id ext <;> simp only [hp]
  · split
    · exact remoteLikeData_writeHeader dlc _ _ _ _
    · exact remoteLikeData_complete dlc s _ (by decide)
  · exact remoteLikeData_complete dlc s _ (by decide)

/-! ## The obligations -/

/-- Settles O46: the two frames are checked alike and completed at the same edge, so they carry the same
free lanes as well. -/
theorem remoteFramesAreEncodedLikeDataFrames : Obligations.RemoteFramesAreEncodedLikeDataFrames := by
  intro id ext dlc data s t u ht hu
  cases ht
  cases hu
  exact remoteLikeData_encode id ext dlc data s.freeLanes s

/-- Settles O49: a long length field is `DLC_RANGE`, so the completion writes no group. -/
theorem decodeRejectsALongLength : Obligations.DecodeRejectsALongLength := by
  intro hdr pay s hlong
  rw [← dlcField_toNat] at hlong
  rw [exec_decode, decodeFrame_of_long hlong, conclude_raise]
  rfl

end Sys2Proof.Machine
end

section
/-! PROOFS. The family `60_exceptions`: the cause of each status, and what the completion of a failed
command writes (60_exceptions.md R151, R153, R154). -/

namespace Sys2Proof.Machine

/-! ## The status a command reports -/

/-- The status a command reports, which its operands alone decide, the checks in the order of R153. -/
def reported : Instr → Status
  | .calcTiming kbps osc sjw => (calcExact kbps.toNat osc.toNat sjw.toNat).status
  | .packid id ext => if idInRange id ext then .ok else .idRange
  | .unpackid _ => .ok
  | .encode id ext _ dlc _ =>
    if idInRange id ext then if dlcInRange dlc then .ok else .dlcRange else .idRange
  | .decode hdr _ => if dlcInRange (dlcField hdr.h5) then .ok else .dlcRange
  | .rsvd101 | .rsvd11x _ => .illegalOp

/-- The completion `t` of a command in `s` shows the status `st`, and unless that is `OK` it is a
completion without a group write. -/
def CompletesWith (s : State) (op : BitVec 3) (st : Status) (t : State) : Prop :=
  t.status = st.code ∧ (st ≠ .ok → t = s.complete op st)

theorem completesWith_complete (s : State) (op : BitVec 3) (st : Status) :
    CompletesWith s op st (s.complete op st) := ⟨rfl, fun _ => rfl⟩

/-- A reply decides a completion, when the write of its group leaves the status alone. -/
theorem completesWith_conclude {α : Type} {write : α → State → State}
    (hwrite : ∀ u res, (write res u).status = u.status) (s : State) (op : BitVec 3) {r : Reply α}
    {st : Status} (h : r.status = st) : CompletesWith s op st (conclude op r write s) := by
  subst h
  cases r with
  | ok res => exact ⟨hwrite _ res, fun hne => absurd rfl hne⟩
  | raise st => exact completesWith_complete s op st

theorem timingOf_status (kbps : BitVec 16) (osc sjw : BitVec 8) :
    (timingOf kbps osc sjw).status = reported (.calcTiming kbps osc sjw) := by
  obtain ⟨c, hcalc, htiming⟩ | ⟨hcalc, htiming⟩ := timingOf_cases kbps osc sjw <;>
    simp only [reported, hcalc, htiming, Reply.status]

theorem packId_status (id : BitVec 32) (ext : BitVec 1) :
    (packId id ext).status = reported (.packid id ext) := by
  obtain ⟨hid, hpack⟩ | ⟨hid, hpack⟩ := packId_cases id ext <;> simp [reported, hid, hpack, Reply.status]

theorem encodeFrame_status (id : BitVec 32) (ext rtr : BitVec 1) (dlc : BitVec 4) (data : Payload)
    (free : Fin 8 → Byte) :
    (encodeFrame id ext rtr dlc data free).status = reported (.encode id ext rtr dlc data) := by
  obtain ⟨hid, hdlc, henc⟩ | ⟨hid, henc⟩ | ⟨hid, hdlc, henc⟩ :=
    encodeFrame_cases id ext rtr dlc data free
  · simp [reported, hid, hdlc, henc, Reply.status]
  · simp [reported, hid, henc, Reply.status]
  · simp [reported, hid, hdlc, henc, Reply.status]

theorem decodeFrame_status (hdr : Header) (pay : Payload) (free : Fin 8 → Byte) :
    (decodeFrame hdr pay free).status = reported (.decode hdr pay) := by
  obtain ⟨hdlc, hdec⟩ | ⟨hdlc, hdec⟩ := decodeFrame_cases hdr pay free <;>
    simp [reported, hdlc, hdec, Reply.status]

/-- R151, R154: every command completes with the status its operands decide. -/
theorem exec_completesWith {i : Instr} {s t : State} (h : exec i s = .next t) :
    CompletesWith s i.op (reported i) t := by
  cases i with
  | calcTiming kbps osc sjw =>
    cases h; exact completesWith_conclude State.writeTiming_status s _ (timingOf_status kbps osc sjw)
  | packid id ext =>
    cases h; exact completesWith_conclude State.writeIdBytes_status s _ (packId_status id ext)
  | unpackid hdr =>
    cases h; exact completesWith_conclude State.writeIdent_status s _ (r := unpackId hdr) rfl
  | encode id ext rtr dlc data =>
    cases h
    exact completesWith_conclude State.writeHeader_status s _ (encodeFrame_status id ext rtr dlc data _)
  | decode hdr pay =>
    cases h; exact completesWith_conclude State.writeFrame_status s _ (decodeFrame_status hdr pay _)
  | rsvd101 => cases h; exact completesWith_complete s _ _
  | rsvd11x x => cases h; exact completesWith_complete s _ _

/-! ## The codes (R150) -/

theorem status_code_inj {st st' : Status} : st.code = st'.code ↔ st = st' := by
  cases st <;> cases st' <;> decide

theorem status_code_not_reserved (st : Status) :
    st.code ≠ 0b100 ∧ st.code ≠ 0b101 ∧ st.code ≠ 0b110 := by
  cases st <;> decide

/-! ## The checks behind each status -/

/-- The four ways in which CALC finds no configuration: R82 (two of them), R84 and R86. -/
theorem calcExact_status_iff (kbps osc sjwIn : Nat) :
    (calcExact kbps osc sjwIn).status = .timingInfeasible ↔
      kbps = 0 ∨ osc = 0 ∨ firstFit kbps osc = none ∨
        ∃ brp bt, firstFit kbps osc = some (brp, bt) ∧
          (segmentsOf bt).valid (clampSjw sjwIn) = false := by
  unfold calcExact
  by_cases hzero : kbps = 0 ∨ osc = 0
  · rw [if_pos hzero, ← or_assoc]
    exact iff_of_true rfl (.inl hzero)
  · rw [if_neg hzero, ← or_assoc, or_iff_right hzero]
    match firstFit kbps osc with
    | none => simp [Reply.status]
    | some (brp, bt) => cases hvalid : (segmentsOf bt).valid (clampSjw sjwIn) <;>
        simp [judge, Reply.status, hvalid]

theorem calcExact_status (kbps osc sjwIn : Nat) :
    (calcExact kbps osc sjwIn).status = .ok ∨
      (calcExact kbps osc sjwIn).status = .timingInfeasible := by
  cases h : calcExact kbps osc sjwIn with
  | ok c => exact .inl rfl
  | raise st => exact .inr (calcExact_raises h)

theorem idInRange_iff (id : BitVec 32) (ext : BitVec 1) :
    idInRange id ext = true ↔
      (ext = 0 ∧ id.toNat ≤ 0x7FF) ∨ (ext = 1 ∧ id.toNat ≤ 0x1FFFFFFF) := by
  obtain rfl | rfl := bit_cases ext
  · rw [idInRange_standard]; simp
  · rw [idInRange_extended]; simp

theorem idInRange_eq_false_iff (id : BitVec 32) (ext : BitVec 1) :
    idInRange id ext = false ↔
      (ext = 0 ∧ 0x7FF < id.toNat) ∨ (ext = 1 ∧ 0x1FFFFFFF < id.toNat) := by
  rw [← Bool.not_eq_true, idInRange_iff]
  obtain rfl | rfl := bit_cases ext <;> simp

theorem dlcInRange_eq_false_iff (dlc : BitVec 4) : dlcInRange dlc = false ↔ 8 < dlc.toNat := by
  rw [← Bool.not_eq_true, dlcInRange_iff, not_le]

/-! ## The cause of each status (R151) -/

/-- The range checks of the other commands give other codes. -/
theorem reported_eq_timingInfeasible_iff {i : Instr} :
    reported i = .timingInfeasible ↔ ∃ kbps osc sjw, i = .calcTiming kbps osc sjw ∧
      (calcExact kbps.toNat osc.toNat sjw.toNat).status = .timingInfeasible := by
  cases i <;> simp [reported, ite_eq_iff]

theorem reported_eq_idRange_iff {i : Instr} :
    reported i = .idRange ↔
      ∃ id ext, (i = .packid id ext ∨ ∃ rtr dlc data, i = .encode id ext rtr dlc data) ∧
        idInRange id ext = false := by
  cases i with
  | calcTiming kbps osc sjw =>
    obtain h | h := calcExact_status kbps.toNat osc.toNat sjw.toNat <;> simp [reported, h]
  | _ => simp [reported, ite_eq_iff]

/-- ENCODE looks at the length only when the identifier is in range (R153). -/
theorem reported_eq_dlcRange_iff {i : Instr} :
    reported i = .dlcRange ↔
      (∃ id ext rtr dlc data, i = .encode id ext rtr dlc data ∧ dlcInRange dlc = false ∧
        idInRange id ext = true) ∨
      ∃ hdr pay, i = .decode hdr pay ∧ dlcInRange (dlcField hdr.h5) = false := by
  cases i with
  | calcTiming kbps osc sjw =>
    obtain h | h := calcExact_status kbps.toNat osc.toNat sjw.toNat <;> simp [reported, h]
  | _ => simp [reported, ite_eq_iff, and_comm]

theorem reported_eq_illegalOp_iff {i : Instr} : reported i = .illegalOp ↔ 5 ≤ i.op.toNat := by
  cases i with
  | calcTiming kbps osc sjw =>
    obtain h | h := calcExact_status kbps.toNat osc.toNat sjw.toNat <;>
      simp [reported, h, Instr.op, opCalc]
  | rsvd11x x => exact iff_of_true rfl (by revert x; decide)
  | _ => simp [reported, ite_eq_iff, Instr.op, opPackid, opUnpackid, opEncode, opDecode, opRsvd101]

/-! ## The obligations -/

/-- Settles O55: a status that is not `OK` was raised, and a raised status completes without a group
write. -/
theorem aFailedCommandWritesNoGroup : Obligations.AFailedCommandWritesNoGroup := by
  intro i s t h hfail
  obtain ⟨hstatus, hgroup⟩ := exec_completesWith h
  have hraised : reported i ≠ .ok := fun hok => hfail (hstatus.trans (status_code_eq_zero.mpr hok))
  rw [hgroup hraised]
  rfl

/-- Settles O54: a completion shows the code of the status its command reports, and distinct statuses have
distinct codes; the last clause is `aFailedCommandWritesNoGroup`. -/
theorem eachStatusHasItsCause : Obligations.EachStatusHasItsCause := by
  intro i s t h
  obtain ⟨hstatus, -⟩ := exec_completesWith h
  have hcode (st : Status) : t.status = st.code ↔ reported i = st := by rw [hstatus, status_code_inj]
  refine ⟨(hcode .timingInfeasible).trans ?_, (hcode .idRange).trans ?_, (hcode .dlcRange).trans ?_,
    (hcode .illegalOp).trans reported_eq_illegalOp_iff, hstatus ▸ status_code_not_reserved _,
    fun hfail => ?_⟩
  · simp only [reported_eq_timingInfeasible_iff, calcExact_status_iff, BitVec.toNat_eq,
      BitVec.ofNat_eq_ofNat, BitVec.toNat_zero, ← Bool.not_eq_true, Segments.valid_iff]
  · simp only [reported_eq_idRange_iff, idInRange_eq_false_iff]
  · simp only [reported_eq_dlcRange_iff, idInRange_iff, dlcInRange_eq_false_iff, dlcField_toNat]
  · rw [aFailedCommandWritesNoGroup i s t h hfail]
    exact ⟨rfl, rfl, rfl, rfl⟩

end Sys2Proof.Machine
end

section
/-! PROOFS. The family `70_reset_and_hazards`: what a reset edge leaves behind (70_reset_and_hazards.md
R171). -/

namespace Sys2Proof.Machine

/-! ## A block as reset leaves it -/

/-- A reset edge has happened, and every element of R23 is at its reset value (R40). -/
def State.AtReset (s : State) : Prop := s.live = true ∧ State.reset.SameBlock s

theorem atReset_toReset (s : State) : s.toReset.AtReset := ⟨rfl, .refl _⟩

theorem atReset_tick {s : State} (h : s.AtReset) : s.tick.AtReset := h

theorem State.AtReset.not_busy {s : State} (h : s.AtReset) : s.busy = false := by
  obtain ⟨-, hbusy, -⟩ := h
  exact hbusy

/-- At an edge with reset or without an offer, a block at its reset values is reset again or idle (R35,
R39): nothing is pending that could complete. -/
theorem step_atReset {s : State} (h : s.AtReset)
    (hquiet : s.portsNow.rst = true ∨ s.portsNow.cmdValid = false) :
    ∃ t, step s = .next t ∧ t.inputs = s.tick.inputs ∧ t.AtReset := by
  cases hr : s.portsNow.rst with
  | true => exact ⟨_, step_reset hr, rfl, atReset_toReset _⟩
  | false =>
    have hv : s.portsNow.cmdValid = false := hquiet.resolve_left (by simp [hr])
    exact ⟨_, step_idle hr h.1 h.not_busy hv, rfl, atReset_tick h⟩

/-- The reset values outlast any number of edges with reset or without an offer. -/
theorem run_atReset (n : Nat) {s : State} (h : s.AtReset)
    (hquiet : ∀ p ∈ s.inputs.take n, p.rst = true ∨ p.cmdValid = false) :
    ∃ t, core.run n s = .next t ∧ t.AtReset := by
  induction n generalizing s with
  | zero => exact ⟨s, rfl, h⟩
  | succ n ih =>
    obtain ⟨t, hstep, hin, ht⟩ := step_atReset h (portsNow_of_take_succ (.inr rfl) hquiet)
    rw [run_succ_of_step hstep]
    exact ih ht (hin ▸ tick_inputs_of_take_succ hquiet)

/-! ## The obligation -/

/-- Settles O11: the reset edge empties the latch with the other elements, and from there on
`run_atReset` holds. -/
theorem resetAbandonsThePendingCommand : Obligations.ResetAbandonsThePendingCommand := by
  intro s n hr hquiet
  obtain ⟨t, hrun, -, hreset⟩ := run_atReset n (atReset_toReset s.tick) hquiet
  exact ⟨t, (run_succ_of_step (step_reset hr) n).trans hrun, hreset⟩

end Sys2Proof.Machine
end

section
/-! PROOFS. The family `other`: decode and encode on the ports, the interface form and the text form, the
steps and runs of the block, the layouts of identifiers and frames, the calculator's bounds and its
search, and the invariant of the block. -/

namespace Sys2Proof.Machine

/-! ## Flattened ports (R54, log 9) -/

/-- Joining loses nothing: the upper and the lower part can be read off again. -/
theorem append_inj {m n : Nat} {x x' : BitVec m} {y y' : BitVec n} (h : x ++ y = x' ++ y') :
    x = x' ∧ y = y' :=
  ⟨by rw [← BitVec.extractLsb'_append_eq_left (a := x) (b := y), h, BitVec.extractLsb'_append_eq_left],
    by rw [← BitVec.extractLsb'_append_eq_right (a := x) (b := y), h,
      BitVec.extractLsb'_append_eq_right]⟩

theorem payload_flat_inj {p q : Payload} (h : p.flat = q.flat) : p = q := by
  refine payload_eq_of_lanes fun i => BitVec.eq_of_getLsbD_eq fun k hk => ?_
  rw [← getLsbD_flat_payload p i hk, ← getLsbD_flat_payload q i hk, h]

theorem header_flat_inj {g h : Header} (heq : g.flat = h.flat) : g = h := by
  obtain ⟨heq, h5⟩ := append_inj heq
  obtain ⟨heq, h4⟩ := append_inj heq
  obtain ⟨heq, h3⟩ := append_inj heq
  obtain ⟨h1, h2⟩ := append_inj heq
  exact Header.ext (IdBytes.ext h1 h2 h3 h4) h5

theorem toWord_inj {c d : Command} (h : c.toWord = d.toWord) : c = d := by
  obtain ⟨h, hop⟩ := append_inj h
  obtain ⟨h, hkbps⟩ := append_inj h
  obtain ⟨h, hosc⟩ := append_inj h
  obtain ⟨h, hsjw⟩ := append_inj h
  obtain ⟨h, hid⟩ := append_inj h
  obtain ⟨h, hext⟩ := append_inj h
  obtain ⟨h, hrtr⟩ := append_inj h
  obtain ⟨h, hdlc⟩ := append_inj h
  obtain ⟨h, hdata⟩ := append_inj h
  obtain ⟨hpay, hhdr⟩ := append_inj h
  cases c
  cases d
  simp only [Command.mk.injEq]
  exact ⟨hop, hkbps, hosc, hsjw, hid, hext, hrtr, hdlc, payload_flat_inj hdata, header_flat_inj hhdr,
    payload_flat_inj hpay⟩

/-- The eleven slices are adjacent, so ten joins give back the whole word. -/
theorem toWord_ofWord (w : BitVec 241) : (Command.ofWord w).toWord = w := by
  dsimp only [Command.toWord, Command.ofWord]
  rw [flat_ofFlat_payload, flat_ofFlat_payload, flat_ofFlat_header]
  iterate 10 rw [BitVec.extractLsb'_append_extractLsb'_eq_extractLsb' (by rfl)]
  exact BitVec.extractLsb'_eq_self

theorem ofWord_toWord (c : Command) : Command.ofWord c.toWord = c :=
  toWord_inj (toWord_ofWord c.toWord)

/-! ## Decoding and encoding (R61 to R67) -/

/-- Each value of the op field is one of R61's. -/
theorem op_cases (op : BitVec 3) :
    op = opCalc ∨ op = opPackid ∨ op = opUnpackid ∨ op = opEncode ∨ op = opDecode ∨ op = opRsvd101 ∨
      ∃ x, op = opRsvd11x x := by
  revert op; decide

theorem decode_encodeOnto (rest : Command) (i : Instr) : decode (encodeOnto rest i) = i := by
  cases i with
  | calcTiming kbps osc sjw => exact decode_of_op_calc rfl
  | packid id ext => exact decode_of_op_packid rfl
  | unpackid hdr => exact decode_of_op_unpackid rfl
  | encode id ext rtr dlc data => exact decode_of_op_encode rfl
  | decode hdr pay => exact decode_of_op_decode rfl
  | rsvd101 => exact decode_of_op_rsvd101 rfl
  | rsvd11x x => exact decode_of_op_rsvd11x rfl

theorem command_with_own_op {c : Command} {op : BitVec 3} (h : c.op = op) :
    { c with op := op } = c := by
  rw [← h]

theorem encodeOnto_decode (c : Command) : encodeOnto c (decode c) = c := by
  obtain h | h | h | h | h | h | ⟨x, h⟩ := op_cases c.op
  · rw [decode_of_op_calc h]; exact command_with_own_op h
  · rw [decode_of_op_packid h]; exact command_with_own_op h
  · rw [decode_of_op_unpackid h]; exact command_with_own_op h
  · rw [decode_of_op_encode h]; exact command_with_own_op h
  · rw [decode_of_op_decode h]; exact command_with_own_op h
  · rw [decode_of_op_rsvd101 h]; exact command_with_own_op h
  · rw [decode_of_op_rsvd11x h]; exact command_with_own_op h

/-- Settles O1: the word and the ports determine each other, and so do a command's ports and what is
decoded of them. -/
theorem decodeAndEncodeAgreeOnPortBits : Obligations.DecodeAndEncodeAgreeOnPortBits :=
  ⟨fun rest i => by rw [ofWord_toWord, decode_encodeOnto],
    fun w => by rw [encodeOnto_decode, toWord_ofWord]⟩

/-- Settles O3, by the values of the op field. -/
theorem everyOpValueHasExactlyOneRow : Obligations.EveryOpValueHasExactlyOneRow := by
  intro c
  have hlast : ∀ x, opTable.filter (fun r => r.covers (opRsvd11x x)) =
      [⟨"RSVD_11x", 0b110, 0b110⟩] := by decide
  obtain h | h | h | h | h | h | ⟨x, h⟩ := op_cases c.op
  · exact ⟨⟨"CALC", 0b111, 0b000⟩, by rw [h]; decide, by rw [decode_of_op_calc h]; rfl⟩
  · exact ⟨⟨"PACKID", 0b111, 0b001⟩, by rw [h]; decide, by rw [decode_of_op_packid h]; rfl⟩
  · exact ⟨⟨"UNPACKID", 0b111, 0b010⟩, by rw [h]; decide, by rw [decode_of_op_unpackid h]; rfl⟩
  · exact ⟨⟨"ENCODE", 0b111, 0b011⟩, by rw [h]; decide, by rw [decode_of_op_encode h]; rfl⟩
  · exact ⟨⟨"DECODE", 0b111, 0b100⟩, by rw [h]; decide, by rw [decode_of_op_decode h]; rfl⟩
  · exact ⟨⟨"RSVD_101", 0b111, 0b101⟩, by rw [h]; decide, by rw [decode_of_op_rsvd101 h]; rfl⟩
  · exact ⟨⟨"RSVD_11x", 0b110, 0b110⟩, by rw [h]; exact hlast x, by rw [decode_of_op_rsvd11x h]; rfl⟩

/-- Settles O4: each word is a literal, and its decoding computes. -/
theorem writtenOutWordsDecode : Obligations.WrittenOutWordsDecode := by
  unfold Obligations.WrittenOutWordsDecode
  decide

/-! ## The interface form (R160, log 12) -/

theorem wire_fits_iff {w : Nat} {x : Wire} : x.fits w = true ↔ x.width = w ∧ x.value < 2 ^ w := by
  simp [Wire.fits]

theorem read_of_fits {w : Nat} {x : Wire} (h : x.fits w = true) (p : Port) :
    x.read p w = .ok (BitVec.ofNat w x.value) := by
  obtain ⟨hwidth, hvalue⟩ := wire_fits_iff.mp h
  simp [Wire.read, hwidth, hvalue]

/-- Nothing of a number that fits its wires is cut off. -/
theorem toNat_of_fits {w : Nat} {x : Wire} (h : x.fits w = true) :
    (BitVec.ofNat w x.value).toNat = x.value := by
  obtain ⟨-, hvalue⟩ := wire_fits_iff.mp h
  rw [BitVec.toNat_ofNat, Nat.mod_eq_of_lt hvalue]

theorem fits_of_read {w : Nat} {x : Wire} {p : Port} {v : BitVec w} (h : x.read p w = .ok v) :
    x.fits w = true := by
  unfold Wire.read at h
  split at h
  · split at h
    case isTrue hwidth hvalue => exact wire_fits_iff.mpr ⟨hwidth, hvalue⟩
    case isFalse => cases h
  · cases h

/-- A sequence of checks passes when each of them does. -/
theorem except_bind_eq_ok {ε α β : Type} {x : Except ε α} {f : α → Except ε β} {b : β} :
    x >>= f = .ok b ↔ ∃ a, x = .ok a ∧ f a = .ok b := by
  cases x with
  | ok a => exact ⟨fun h => ⟨a, rfl, h⟩, by rintro ⟨_, ⟨⟩, h⟩; exact h⟩
  | error e => exact ⟨nofun, nofun⟩

theorem readPayload_of_bytesFit {l : List Wire} (h : bytesFit 8 l = true) (p : Port) :
    ∃ v, readPayload p l = .ok v ∧ Text.payloadNumbers v = l.map Wire.value := by
  match l, h with
  | [a, b, c, d, e, f, g, i], h =>
    simp only [bytesFit, List.all_cons, Bool.and_eq_true] at h
    refine ⟨⟨.ofNat 8 a.value, .ofNat 8 b.value, .ofNat 8 c.value, .ofNat 8 d.value,
      .ofNat 8 e.value, .ofNat 8 f.value, .ofNat 8 g.value, .ofNat 8 i.value⟩, ?_, ?_⟩
    · simp only [readPayload, read_of_fits, h]; rfl
    · simp only [Text.payloadNumbers, toNat_of_fits, h, List.map]

theorem bytesFit_of_readPayload {p : Port} {l : List Wire} {v : Payload}
    (h : readPayload p l = .ok v) : bytesFit 8 l = true := by
  unfold readPayload at h
  split at h
  · simp only [except_bind_eq_ok] at h
    obtain ⟨_, h0, _, h1, _, h2, _, h3, _, h4, _, h5, _, h6, _, h7, -⟩ := h
    simp [bytesFit, fits_of_read h0, fits_of_read h1, fits_of_read h2, fits_of_read h3,
      fits_of_read h4, fits_of_read h5, fits_of_read h6, fits_of_read h7]
  · cases h

theorem readHeader_of_bytesFit {l : List Wire} (h : bytesFit 5 l = true) (p : Port) :
    ∃ v, readHeader p l = .ok v ∧
      Text.identNumbers v.ident ++ [v.h5.toNat] = l.map Wire.value := by
  match l, h with
  | [a, b, c, d, e], h =>
    simp only [bytesFit, List.all_cons, Bool.and_eq_true] at h
    refine ⟨⟨⟨.ofNat 8 a.value, .ofNat 8 b.value, .ofNat 8 c.value, .ofNat 8 d.value⟩,
      .ofNat 8 e.value⟩, ?_, ?_⟩
    · simp only [readHeader, read_of_fits, h]; rfl
    · simp only [Text.identNumbers, toNat_of_fits, h, List.map, List.cons_append, List.nil_append]

theorem bytesFit_of_readHeader {p : Port} {l : List Wire} {v : Header}
    (h : readHeader p l = .ok v) : bytesFit 5 l = true := by
  unfold readHeader at h
  split at h
  · simp only [except_bind_eq_ok] at h
    obtain ⟨_, h1, _, h2, _, h3, _, h4, _, h5, -⟩ := h
    simp [bytesFit, fits_of_read h1, fits_of_read h2, fits_of_read h3, fits_of_read h4,
      fits_of_read h5]
  · cases h

theorem wellFormed_of_connect {r : RawPorts} {p : Ports} (h : r.connect = .ok p) :
    r.wellFormed = true := by
  simp only [RawPorts.connect, except_bind_eq_ok] at h
  obtain ⟨_, hrst, _, hvalid, _, hop, _, hkbps, _, hosc, _, hsjw, _, hid, _, hext, _, hrtr, _, hdlc,
    _, hdata, _, hhdr, _, hpay, -⟩ := h
  simp [RawPorts.wellFormed, fits_of_read hrst, fits_of_read hvalid, fits_of_read hop,
    fits_of_read hkbps, fits_of_read hosc, fits_of_read hsjw, fits_of_read hid, fits_of_read hext,
    fits_of_read hrtr, fits_of_read hdlc, bytesFit_of_readPayload hdata, bytesFit_of_readHeader hhdr,
    bytesFit_of_readPayload hpay]

/-- Every port of `p` holds the number that `r` presents on it. -/
def CarriesNumbers (r : RawPorts) (p : Ports) : Prop :=
  p.cmd.op.toNat = r.op.value ∧ p.cmd.kbps.toNat = r.kbps.value ∧ p.cmd.osc.toNat = r.osc.value ∧
    p.cmd.sjw.toNat = r.sjw.value ∧ p.cmd.id.toNat = r.id.value ∧ p.cmd.ext.toNat = r.ext.value ∧
    p.cmd.rtr.toNat = r.rtr.value ∧ p.cmd.dlc.toNat = r.dlc.value ∧
    Text.payloadNumbers p.cmd.data = r.data.map Wire.value ∧
    Text.identNumbers p.cmd.hdr.ident ++ [p.cmd.hdr.h5.toNat] = r.hdr.map Wire.value ∧
    Text.payloadNumbers p.cmd.pay = r.pay.map Wire.value ∧
    (p.rst = true ↔ r.rst.value = 1) ∧ (p.cmdValid = true ↔ r.cmdValid.value = 1)

theorem wire_is_one_iff {x : Wire} (h : x.fits 1 = true) :
    (BitVec.ofNat 1 x.value == 1) = true ↔ x.value = 1 := by
  rw [beq_iff_eq, ← BitVec.toNat_inj, toNat_of_fits h]
  rfl

theorem connect_of_wellFormed {r : RawPorts} (h : r.wellFormed = true) :
    ∃ p, r.connect = .ok p ∧ CarriesNumbers r p := by
  simp only [RawPorts.wellFormed, Bool.and_eq_true, and_assoc] at h
  obtain ⟨hrst, hvalid, hop, hkbps, hosc, hsjw, hid, hext, hrtr, hdlc, hdata, hhdr, hpay⟩ := h
  obtain ⟨data, hdata, data_carried⟩ := readPayload_of_bytesFit hdata .data
  obtain ⟨hdr, hhdr, hdr_carried⟩ := readHeader_of_bytesFit hhdr .hdr
  obtain ⟨pay, hpay, pay_carried⟩ := readPayload_of_bytesFit hpay .pay
  refine ⟨⟨BitVec.ofNat 1 r.rst.value == 1, BitVec.ofNat 1 r.cmdValid.value == 1,
    ⟨.ofNat 3 r.op.value, .ofNat 16 r.kbps.value, .ofNat 8 r.osc.value, .ofNat 8 r.sjw.value,
      .ofNat 32 r.id.value, .ofNat 1 r.ext.value, .ofNat 1 r.rtr.value, .ofNat 4 r.dlc.value,
      data, hdr, pay⟩⟩, ?_, toNat_of_fits hop, toNat_of_fits hkbps, toNat_of_fits hosc,
    toNat_of_fits hsjw, toNat_of_fits hid, toNat_of_fits hext, toNat_of_fits hrtr,
    toNat_of_fits hdlc, data_carried, hdr_carried, pay_carried, wire_is_one_iff hrst,
    wire_is_one_iff hvalid⟩
  simp only [RawPorts.connect, read_of_fits, hrst, hvalid, hop, hkbps, hosc, hsjw, hid, hext, hrtr,
    hdlc, hdata, hhdr, hpay]
  rfl

/-- Settles O6: the checks of `connect` are those of `wellFormed`, port by port. -/
theorem onlyTheDefinedInterfaceFormIsTaken : Obligations.OnlyTheDefinedInterfaceFormIsTaken := by
  refine fun r => ⟨connect_of_wellFormed, fun hform => ?_⟩
  match h : r.connect with
  | .error e => exact ⟨e, rfl⟩
  | .ok p => rw [wellFormed_of_connect h] at hform; cases hform

/-! ## The text form (R69 to R71, log 11) -/

section TextForm

open Text

/-- The assembler's checks are those of a well-formed line. -/
theorem assemble_of_wellFormed {t : TextLine} (h : t.wellFormed = true) (fill : Command) :
    assemble fill t =
      .ok (t.operands.foldl driveOperand { fill with op := opOf fill.op t.mnemonic }) := by
  simp only [TextLine.wellFormed, Bool.and_eq_true, decide_eq_true_eq] at h
  obtain ⟨⟨honce, hrange⟩, hplaced⟩ := h
  simp only [assemble, honce, hrange, hplaced]
  rfl

@[simp] theorem drivePayload_payloadNumbers (p rest : Payload) :
    drivePayload (payloadNumbers p) rest = p := by
  refine payload_eq_of_lanes fun i => ?_
  rw [drivePayload, lane_ofLanes]
  fin_cases i <;> simp [byteAt, payloadNumbers, Payload.lane]

@[simp] theorem driveHeader_identNumbers (h : IdBytes) (rest : Header) :
    driveHeader (identNumbers h) rest = ⟨h, rest.h5⟩ := by
  simp [driveHeader, identNumbers, byteAt]

@[simp] theorem driveHeader_headerNumbers (h rest : Header) :
    driveHeader (identNumbers h.ident ++ [h.h5.toNat]) rest = h := by
  simp [driveHeader, identNumbers, byteAt]

/-! Every operand value of a command lies in the range R69 gives it. -/

@[simp] theorem fits_kbps (v : BitVec 16) : Arg.fits .kbps (.num v.toNat) = true :=
  decide_eq_true v.isLt
@[simp] theorem fits_osc (v : BitVec 8) : Arg.fits .osc (.num v.toNat) = true := decide_eq_true v.isLt
@[simp] theorem fits_sjw (v : BitVec 8) : Arg.fits .sjw (.num v.toNat) = true := decide_eq_true v.isLt
@[simp] theorem fits_id (v : BitVec 32) : Arg.fits .id (.num v.toNat) = true := decide_eq_true v.isLt
@[simp] theorem fits_ext (v : BitVec 1) : Arg.fits .ext (.num v.toNat) = true := decide_eq_true v.isLt
@[simp] theorem fits_rtr (v : BitVec 1) : Arg.fits .rtr (.num v.toNat) = true := decide_eq_true v.isLt
@[simp] theorem fits_dlc (v : BitVec 4) : Arg.fits .dlc (.num v.toNat) = true := decide_eq_true v.isLt

theorem payloadNumbers_lt (p : Payload) : (payloadNumbers p).all (decide <| · < 2 ^ 8) = true := by
  simp only [payloadNumbers, List.all_cons, BitVec.isLt]
  rfl

theorem identNumbers_lt (h : IdBytes) : (identNumbers h).all (decide <| · < 2 ^ 8) = true := by
  simp only [identNumbers, List.all_cons, BitVec.isLt]
  rfl

@[simp] theorem fits_data (p : Payload) : Arg.fits .data (.bytes (payloadNumbers p)) = true :=
  payloadNumbers_lt p
@[simp] theorem fits_pay (p : Payload) : Arg.fits .pay (.bytes (payloadNumbers p)) = true :=
  payloadNumbers_lt p
@[simp] theorem fits_ident (h : IdBytes) : Arg.fits .hdr (.bytes (identNumbers h)) = true :=
  identNumbers_lt h
@[simp] theorem fits_hdr (h : Header) :
    Arg.fits .hdr (.bytes (identNumbers h.ident ++ [h.h5.toNat])) = true := by
  simp only [Arg.fits, List.all_append, identNumbers_lt, List.all_cons, BitVec.isLt]
  rfl

theorem lineOf_wellFormed (i : Instr) : (lineOf i).wellFormed = true := by
  cases i with
  | rsvd101 => decide
  | rsvd11x x => revert x; decide
  | _ => simp [TextLine.wellFormed, lineOf, TextLine.opPlaced]

/-- The operands of a command's line, driven one by one, are the command's ports. -/
theorem drive_lineOf (fill : Command) (i : Instr) :
    (lineOf i).operands.foldl driveOperand { fill with op := opOf fill.op (lineOf i).mnemonic } =
      encodeOnto fill i := by
  cases i <;> simp [lineOf, driveOperand, encodeOnto, opOf, Instr.op]

end TextForm

/-- Settles O7: the line of a command is well formed, and drives that command's ports. -/
theorem textLineAssemblesToItsCommand : Obligations.TextLineAssemblesToItsCommand :=
  fun fill i => ⟨by rw [assemble_of_wellFormed (lineOf_wellFormed i), drive_lineOf],
    lineOf_wellFormed i⟩

/-! ## The frame of every command (R34) -/

/-- What no completion writes: the latch and the model's own fields. -/
theorem exec_keeps_rest {i : Instr} {s t : State} (h : exec i s = .next t) :
    t.pend = s.pend ∧ t.inputs = s.inputs ∧ t.edge = s.edge ∧ t.live = s.live :=
  exec_induction
    (P := fun u => u.pend = s.pend ∧ u.inputs = s.inputs ∧ u.edge = s.edge ∧ u.live = s.live) h
    (fun _ => ⟨rfl, rfl, rfl, rfl⟩) (fun _ _ hu => hu) (fun _ _ hu => hu) (fun _ _ hu => hu)
    (fun _ _ hu => hu) (fun _ _ hu => hu)

/-- `t` has the result fields of `s` outside those that the op writes (R34). -/
def GroupFrame (op : BitVec 3) (s t : State) : Prop :=
  (op ≠ 0b000 → t.tr = s.tr) ∧
  (op ≠ 0b001 → op ≠ 0b011 → t.hr = s.hr) ∧
  (op = 0b001 → t.hr.hdr.h5 = s.hr.hdr.h5 ∧ t.hr.pay = s.hr.pay ∧ t.hr.nbytes = s.hr.nbytes) ∧
  (op ≠ 0b010 → op ≠ 0b100 → t.fr = s.fr) ∧
  (op = 0b010 → t.fr.rtr = s.fr.rtr ∧ t.fr.dlc = s.fr.dlc ∧ t.fr.data = s.fr.data)

theorem groupFrame_complete (op : BitVec 3) (s : State) (st : Status) :
    GroupFrame op s (s.complete op st) :=
  ⟨fun _ => rfl, fun _ _ => rfl, fun _ => ⟨rfl, rfl, rfl⟩, fun _ _ => rfl, fun _ => ⟨rfl, rfl, rfl⟩⟩

theorem groupFrame_conclude {α : Type} {op : BitVec 3} {write : α → State → State} {s : State}
    (hwrite : ∀ res, GroupFrame op s (write res (s.complete op .ok))) (r : Reply α) :
    GroupFrame op s (conclude op r write s) := by
  cases r with
  | ok res => exact hwrite res
  | raise st => exact groupFrame_complete op s st

theorem exec_groupFrame {i : Instr} {s t : State} (h : exec i s = .next t) :
    GroupFrame i.op s t := by
  cases i with
  | calcTiming kbps osc sjw =>
    cases h; exact groupFrame_conclude (op := opCalc) (fun _ => by simp [GroupFrame, opCalc]) _
  | packid id ext =>
    cases h; exact groupFrame_conclude (op := opPackid) (fun _ => by simp [GroupFrame, opPackid]) _
  | unpackid hdr =>
    cases h
    exact groupFrame_conclude (op := opUnpackid) (fun _ => by simp [GroupFrame, opUnpackid]) _
  | encode id ext rtr dlc data =>
    cases h; exact groupFrame_conclude (op := opEncode) (fun _ => by simp [GroupFrame, opEncode]) _
  | decode hdr pay =>
    cases h; exact groupFrame_conclude (op := opDecode) (fun _ => by simp [GroupFrame, opDecode]) _
  | rsvd101 => cases h; exact groupFrame_complete _ _ _
  | rsvd11x x => cases h; exact groupFrame_complete _ _ _

/-- Settles O56: every command completes, and a completion writes the handshake, the status and the op's
own fields. -/
theorem eachOpWritesItsOwnGroupOnly : Obligations.EachOpWritesItsOwnGroupOnly := by
  intro i s
  obtain ⟨t, h⟩ := exec_next i s
  obtain ⟨hbusy, hvalid, hwait, hop⟩ := exec_handshake h
  obtain ⟨hpend, hinputs, hedge, hlive⟩ := exec_keeps_rest h
  exact ⟨t, h, hop, hbusy, hvalid, hwait, hpend, hinputs, hedge, hlive, exec_groupFrame h⟩

/-- The op values from 5 on are the reserved ones (R66). -/
theorem decode_of_reserved {c : Command} (h : 5 ≤ c.op.toNat) :
    (c.op = opRsvd101 ∧ decode c = .rsvd101) ∨ ∃ x, c.op = opRsvd11x x ∧ decode c = .rsvd11x x := by
  obtain hop | hop | hop | hop | hop | hop | ⟨x, hop⟩ := op_cases c.op
  · exact absurd (hop ▸ h) (by decide)
  · exact absurd (hop ▸ h) (by decide)
  · exact absurd (hop ▸ h) (by decide)
  · exact absurd (hop ▸ h) (by decide)
  · exact absurd (hop ▸ h) (by decide)
  · exact .inl ⟨hop, decode_of_op_rsvd101 hop⟩
  · exact .inr ⟨x, hop, decode_of_op_rsvd11x hop⟩

/-- Settles O53: a reserved op is a completion without a group write. -/
theorem reservedOpsCompleteAsIllegal : Obligations.ReservedOpsCompleteAsIllegal := by
  refine ⟨fun _ => rfl, fun _ _ => rfl, fun c s hc => ?_⟩
  obtain ⟨hop, hdecode⟩ | ⟨x, hop, hdecode⟩ := decode_of_reserved hc <;> rw [hop, hdecode] <;> rfl

/-! ## Single edges (R35 to R39) -/

/-- Settles O8: `step_complete`, with the edge taken written out. -/
theorem stepRunsTheDecodedCommand : Obligations.StepRunsTheDecodedCommand :=
  fun _ hl hr hb hw => step_complete hr hl hb hw

/-- Settles O15: `step_wait`, with the edge taken and the count written out. -/
theorem waitingEdgeOnlyCountsDown : Obligations.WaitingEdgeOnlyCountsDown :=
  fun _ hl hr hb hw => step_wait hr hl hb hw

theorem releaseReset_rst (s : State) : s.releaseReset.portsNow.rst = false := by
  unfold State.releaseReset State.portsNow
  split
  case h_1 hinputs => rw [hinputs]; rfl
  case h_2 => rfl

/-- Taking the reset off the coming edge changes what the host drives, and no element of R23. -/
theorem releaseReset_sameBlock (s : State) : s.SameBlock s.releaseReset := by
  unfold State.releaseReset
  split <;> exact .refl s

theorem step_awaiting (c : Command) (s : State) :
    step (s.awaiting c) = exec (decode c) (s.awaiting c).tick :=
  step_complete (releaseReset_rst s) rfl rfl (Nat.le_refl 1)

theorem decode_tableCommand {nbits w : Nat} {i : Instr} (h : decodeTableWord nbits w = some i) :
    decode (tableCommand nbits w) = i := by
  unfold decodeTableWord at h
  split at h
  · exact Option.some.inj h
  · cases h

/-- Settles O9: a placed word is a command awaiting its completing edge. -/
theorem placedWordIsTheNextCommandRun : Obligations.PlacedWordIsTheNextCommandRun := by
  intro s nbits w i h
  obtain ⟨-, -, -, -, hstatus, hop, htr, hhr, hfr⟩ := releaseReset_sameBlock s
  have hi : State.pending (s.withFetchWord nbits w) = i := decode_tableCommand h
  have hstep : step (s.withFetchWord nbits w) = exec i (s.withFetchWord nbits w).tick :=
    hi ▸ step_awaiting (tableCommand nbits w) s
  exact ⟨_, hstep, hi, htr, hhr, hfr, hstatus, hop⟩

theorem portsNow_of_cons {s : State} {p : Ports} {ps : List Ports} (h : s.inputs = p :: ps) :
    s.portsNow = p := by
  simp [State.portsNow, h]

/-- After one edge the second of the host's inputs is at the ports. -/
theorem portsNow_of_tail_cons {s t : State} {p q : Ports} {ps : List Ports}
    (h : s.inputs = p :: q :: ps) (ht : t.inputs = s.inputs.tail) : t.portsNow = q :=
  portsNow_of_cons (ht.trans (congrArg List.tail h))

/-- Settles O12: a reset edge, then an accepting one. -/
theorem blockLeavesResetReady : Obligations.BlockLeavesResetReady := by
  intro s p q ps hin hp hq hv
  have hfirst : s.portsNow = p := portsNow_of_cons hin
  have hsecond : s.tick.toReset.portsNow = q := portsNow_of_tail_cons hin rfl
  refine ⟨s.tick.toReset, _, step_reset (by rw [hfirst, hp]), fun k => ?_,
    step_accept (by rw [hsecond, hq]) rfl rfl (by rw [hsecond, hv]), rfl, congrArg Ports.cmd hsecond⟩
  rw [outputs_cmdReady, cmdReady_of_live k rfl]
  rfl

/-- Settles O14: both edges are accepting ones, and the draw is a function of the edge count. -/
theorem latencyDrawIgnoresTheCommand : Obligations.LatencyDrawIgnoresTheCommand := by
  intro s t u p q ps hb hp hpv hq hqv ht hu
  cases hl : s.live with
  | false => rw [step_unreset (s := { s with inputs := p :: ps }) hp hl] at ht; cases ht
  | true =>
    rw [step_accept (s := { s with inputs := p :: ps }) hp hl hb hpv] at ht
    rw [step_accept (s := { s with inputs := q :: ps }) hq hl hb hqv] at hu
    cases ht
    cases hu
    rfl

/-- States that differ in the ports of the coming edge alone take the same step, if the ports agree on
`rst` and the edge is no accepting one. -/
theorem step_eq_of_no_acceptance {s t : State} (htick : s.tick = t.tick)
    (hrst : s.portsNow.rst = t.portsNow.rst)
    (h : s.portsNow.rst = true ∨ s.busy = true ∨
      (s.portsNow.cmdValid = false ∧ t.portsNow.cmdValid = false)) : step s = step t := by
  have hlive : s.live = t.live := (congrArg State.live htick : s.tick.live = t.tick.live)
  have hbusy : s.busy = t.busy := (congrArg State.busy htick : s.tick.busy = t.tick.busy)
  have hwait : s.wait = t.wait := (congrArg State.wait htick : s.tick.wait = t.tick.wait)
  have hpend : s.pend = t.pend := (congrArg State.pend htick : s.tick.pend = t.tick.pend)
  rw [hrst, hbusy] at h
  simp only [step, risingEdge, State.pending, htick, hrst, hlive, hbusy, hwait, hpend]
  obtain h | h | ⟨h, h'⟩ := h
  · simp only [h, if_true]
  · simp only [h, if_true]
  · simp only [h, h', Bool.false_eq_true, if_false]

/-- Settles O18: `step_eq_of_no_acceptance`, for each way an edge is no accepting one. -/
theorem portsAreSampledAtTheAcceptingEdgeOnly : Obligations.PortsAreSampledAtTheAcceptingEdgeOnly := by
  refine ⟨fun s p q ps hrst hvalid h => step_eq_of_no_acceptance rfl hrst ?_,
    fun s p q ps hrst hb => step_eq_of_no_acceptance rfl hrst (.inr (.inl hb))⟩
  exact h.imp_right (Or.imp_right fun hv => ⟨hv, hvalid.symm.trans hv⟩)

/-- Settles O19: a completing edge, then an accepting one over its results. -/
theorem heldOfferIsAcceptedAgain : Obligations.HeldOfferIsAcceptedAgain := by
  intro s p q ps hin hl hb hw hp hq hv
  have hfirst : s.portsNow = p := portsNow_of_cons hin
  obtain ⟨t, hexec⟩ := exec_next (decode s.pend) s.tick
  have hstep : step s = .next t := (step_complete (by rw [hfirst, hp]) hl hb hw).trans hexec
  obtain ⟨hbusy, hvalid, -, -⟩ := exec_handshake hexec
  obtain ⟨-, hinputs, -, hlive⟩ := exec_keeps_rest hexec
  have htl : t.live = true := hlive.trans hl
  have hsecond : t.portsNow = q := portsNow_of_tail_cons hin hinputs
  exact ⟨t, _, hstep, fun k => by simp [htl, hbusy, hvalid], hvalid,
    step_accept (by rw [hsecond, hq]) htl hbusy (by rw [hsecond, hv]), rfl, rfl,
    congrArg Ports.cmd hsecond, rfl, rfl, rfl, rfl, rfl⟩

theorem step_answers_of_live_or_reset {s : State} (h : s.live = true ∨ s.portsNow.rst = true) :
    ∃ t, step s = .next t ∧ t.live = true := by
  cases hr : s.portsNow.rst with
  | true => exact ⟨_, step_reset hr, rfl⟩
  | false =>
    have hl : s.live = true := h.resolve_right (by simp [hr])
    cases hb : s.busy with
    | true =>
      rcases Nat.lt_or_ge 1 s.wait with hw | hw
      · exact ⟨_, step_wait hr hl hb hw, hl⟩
      · obtain ⟨t, hexec⟩ := exec_next (decode s.pend) s.tick
        obtain ⟨-, -, -, hlive⟩ := exec_keeps_rest hexec
        exact ⟨t, (step_complete hr hl hb hw).trans hexec, hlive.trans hl⟩
    | false =>
      cases hv : s.portsNow.cmdValid with
      | true => exact ⟨_, step_accept hr hl hb hv, hl⟩
      | false => exact ⟨_, step_idle hr hl hb hv, hl⟩

/-- Settles O21: an edge is answered or refused, by whether the block was or is being reset. -/
theorem onlyAnUnresetBlockRefusesAnEdge : Obligations.OnlyAnUnresetBlockRefusesAnEdge := by
  intro s
  by_cases h : s.live = true ∨ s.portsNow.rst = true
  · obtain ⟨t, hstep, hlive⟩ := step_answers_of_live_or_reset h
    refine ⟨fun r => iff_of_false (by simp [hstep]) ?_, iff_of_true h ⟨t, hstep, hlive⟩⟩
    rintro ⟨hl, hr, -⟩
    simp [hl, hr] at h
  · obtain ⟨hl, hr⟩ : s.live = false ∧ s.portsNow.rst = false := by simpa using h
    have hstep := step_unreset hr hl
    exact ⟨fun r => by simp [hstep, hl, hr, eq_comm], iff_of_false h (by simp [hstep])⟩

/-- Settles O22: `cmd_ready` is read off `busy`, and the outputs name no input. -/
theorem cmdReadyDependsOnStateOnly : Obligations.CmdReadyDependsOnStateOnly :=
  fun _ _ k hl => ⟨(outputs_cmdReady k).trans (cmdReady_of_live k hl), rfl⟩

/-- Settles O23: `outputs_of_result`. -/
theorem resultPortsShowTheirElements : Obligations.ResultPortsShowTheirElements :=
  fun _ k hl hv => outputs_of_result k hl hv

/-- Settles O58: without reset such a block refuses the edge, and a reset edge leaves it at reset. -/
theorem nothingShowsBeforeTheFirstReset : Obligations.NothingShowsBeforeTheFirstReset := by
  refine ⟨fun s t k => outputs_unreset k, fun s t hl hstep => ?_⟩
  cases hr : s.portsNow.rst with
  | false => rw [step_unreset hr hl] at hstep; cases hstep
  | true => rw [step_reset hr] at hstep; cases hstep; exact ⟨rfl, atReset_toReset _⟩

/-! ## A run up to the completing edge (R36 to R38) -/

/-- The block `n` waiting edges later, with `w` edges left. -/
def State.afterWaiting (n w : Nat) (s : State) : State :=
  { s with wait := w, inputs := s.inputs.drop n, edge := s.edge + n }

theorem afterWaiting_countDown (s : State) (n w : Nat) :
    s.tick.countDown.afterWaiting n w = s.afterWaiting (n + 1) w := by
  simp only [State.afterWaiting, State.countDown, State.tick, List.drop_tail, Nat.add_assoc,
    Nat.add_comm 1 n]

theorem afterWaiting_one (s : State) : s.afterWaiting 1 s.wait = s.tick := by
  simp only [State.afterWaiting, State.tick, List.drop_one]

/-- The accepting edge and the waiting edges after it add up. -/
theorem afterWaiting_accept (s : State) (c : Command) (n w : Nat) :
    (s.tick.accept c).afterWaiting n w =
      { s with pend := c, busy := true, rspValid := false, wait := w,
               inputs := s.inputs.drop (n + 1), edge := s.edge + (n + 1) } := by
  simp only [State.afterWaiting, State.accept, State.tick, List.drop_tail, Nat.add_assoc,
    Nat.add_comm 1 n]

theorem portsNow_rst_of_take {s : State} {n : Nat}
    (h : ∀ p ∈ s.inputs.take (n + 1), p.rst = false) : s.portsNow.rst = false :=
  portsNow_of_take_succ (P := (·.rst = false)) rfl h

/-- While more than one edge is left, edges only count down (R37). -/
theorem run_waiting {s : State} (n : Nat) (hl : s.live = true) (hb : s.busy = true) (hn : n < s.wait)
    (hin : ∀ p ∈ s.inputs.take n, p.rst = false) :
    core.run n s = .next (s.afterWaiting n (s.wait - n)) := by
  induction n generalizing s with
  | zero => rfl
  | succ n ih =>
    have hstep := step_wait (portsNow_rst_of_take hin) hl hb (by omega)
    have hrun := ih (s := s.tick.countDown) hl hb (Nat.lt_sub_of_add_lt hn)
      (tick_inputs_of_take_succ hin)
    rw [afterWaiting_countDown] at hrun
    rw [run_succ_of_step hstep, hrun]
    simp [Nat.sub_sub, Nat.add_comm]

theorem run_one (s : State) : core.run 1 s = step s := by
  have hcore : core.step s = step s := rfl
  simp only [Host.Core.run, hcore]
  cases step s <;> rfl

/-- A pending command completes at the edge its latency ends with (R37, R38). -/
theorem run_to_completion {s : State} {n : Nat} (hw : s.wait = n + 1) (hl : s.live = true)
    (hb : s.busy = true) (hin : ∀ p ∈ s.inputs.take (n + 1), p.rst = false) :
    core.run (n + 1) s = exec (decode s.pend) (s.afterWaiting (n + 1) 1) := by
  induction n generalizing s with
  | zero =>
    rw [run_one, step_complete (portsNow_rst_of_take hin) hl hb hw.le, ← afterWaiting_one, hw]
  | succ n ih =>
    have hstep := step_wait (portsNow_rst_of_take hin) hl hb (by omega)
    have hrun := ih (s := s.tick.countDown) (by simp [hw]) hl hb (tick_inputs_of_take_succ hin)
    rw [afterWaiting_countDown] at hrun
    exact (run_succ_of_step hstep (n + 1)).trans hrun

/-- Settles O17: the accepting edge draws `d`, the edges before the `d`-th wait, and the `d`-th
completes. -/
theorem acceptedCommandCompletesWithinMaxLatency :
    Obligations.AcceptedCommandCompletesWithinMaxLatency := by
  intro s hl hb hr hv hin
  obtain ⟨n, hn⟩ : ∃ n, s.tick.latencyDraw = n + 1 := ⟨_, rfl⟩
  have hle : n + 1 ≤ Config.maxLatency := hn ▸ latencyDraw_le s.tick
  have hquiet (k : Nat) (hk : k ≤ n + 1) : ∀ p ∈ s.tick.inputs.take k, p.rst = false := fun p hp =>
    tick_inputs_of_take_succ hin p (List.take_subset_take_left _ (hk.trans hle) hp)
  have hstep := step_accept hr hl hb hv
  refine ⟨n + 1, Nat.succ_pos n, hle, fun k hk => ?_, ?_⟩
  · have hrun := run_waiting (s := s.tick.accept s.portsNow.cmd) k hl rfl (hk.trans_eq hn.symm)
      (hquiet k hk.le)
    rw [afterWaiting_accept, State.accept_wait, hn] at hrun
    exact ⟨_, (run_succ_of_step hstep k).trans hrun, rfl, rfl, rfl, rfl, rfl, rfl, rfl, rfl, rfl⟩
  · have hrun := run_to_completion (s := s.tick.accept s.portsNow.cmd) hn hl rfl (hquiet _ le_rfl)
    rw [afterWaiting_accept] at hrun
    exact (run_succ_of_step hstep (n + 1)).trans hrun

/-! ## Commands whose operands are in range -/

theorem idInRange_of_le {id : BitVec 32} {ext : BitVec 1} (h0 : ext = 0 → id.toNat ≤ 0x7FF)
    (h1 : ext = 1 → id.toNat ≤ 0x1FFFFFFF) : idInRange id ext = true :=
  (idInRange_iff id ext).mpr ((bit_cases ext).imp (fun h => ⟨h, h0 h⟩) fun h => ⟨h, h1 h⟩)

theorem packId_of_in_range {id : BitVec 32} {ext : BitVec 1} (h : idInRange id ext = true) :
    packId id ext = .ok (layoutId id ext) := if_pos h

theorem exec_packid_of_in_range {id : BitVec 32} {ext : BitVec 1} (h : idInRange id ext = true)
    (s : State) : exec (.packid id ext) s =
      .next ((s.complete opPackid .ok).writeIdBytes (layoutId id ext)) := by
  rw [exec_packid, packId_of_in_range h, conclude_ok]

theorem exec_encode_of_in_range {id : BitVec 32} {ext : BitVec 1} {dlc : BitVec 4}
    (hid : idInRange id ext = true) (hdlc : dlc.toNat ≤ 8) (rtr : BitVec 1) (data : Payload)
    (s : State) : exec (.encode id ext rtr dlc data) s =
      .next ((s.complete opEncode .ok).writeHeader
        ⟨⟨layoutId id ext, dlcByte rtr dlc⟩, carriedLanes dlc data s.freeLanes, frameBytes dlc⟩) := by
  simp [exec_encode, encodeFrame, packId_of_in_range hid, (dlcInRange_iff dlc).mpr hdlc]

theorem exec_encode_of_long {id : BitVec 32} {ext : BitVec 1} {dlc : BitVec 4}
    (hid : idInRange id ext = true) (hdlc : 8 < dlc.toNat) (rtr : BitVec 1) (data : Payload)
    (s : State) :
    exec (.encode id ext rtr dlc data) s = .next (s.complete opEncode .dlcRange) := by
  simp [exec_encode, encodeFrame, packId_of_in_range hid, dlcInRange_of_long hdlc]

theorem exec_decode_of_in_range {hdr : Header} (hdlc : (dlcField hdr.h5).toNat ≤ 8) (pay : Payload)
    (s : State) : exec (.decode hdr pay) s =
      .next ((s.complete opDecode .ok).writeFrame
        ⟨(readId hdr.ident).1, (readId hdr.ident).2, rtrField hdr.h5, dlcField hdr.h5,
          carriedLanes (dlcField hdr.h5) pay s.freeLanes⟩) := by
  simp [exec_decode, decodeFrame, (dlcInRange_iff _).mpr hdlc]

/-! ## The layouts of R101 and R102 -/

/-- Header byte 2 of a standard identifier whose bits 2:0 are `t` (R101). -/
def standardByte2 (t : BitVec 3) : Byte := t ++ 0b00000#5

/-- Header byte 2 of an extended identifier whose bits 20:18 are `t` and bits 17:16 are `l`, with EXIDE
in bit 3 (R102). -/
def extendedByte2 (t : BitVec 3) (l : BitVec 2) : Byte := t ++ 0b0#1 ++ 0b1#1 ++ 0b0#1 ++ l

theorem layoutId_standard (id : BitVec 32) :
    layoutId id 0 = ⟨id.extractLsb' 3 8, standardByte2 (id.extractLsb' 0 3), 0, 0⟩ := rfl

theorem layoutId_extended (id : BitVec 32) :
    layoutId id 1 = ⟨id.extractLsb' 21 8, extendedByte2 (id.extractLsb' 18 3) (id.extractLsb' 16 2),
      id.extractLsb' 8 8, id.extractLsb' 0 8⟩ := rfl

section SecondByte

variable (t : BitVec 3) (l : BitVec 2)

theorem standardByte2_top : (standardByte2 t).extractLsb' 5 3 = t := by revert t; decide

theorem standardByte2_zeros : ∀ k < 5, (standardByte2 t).getLsbD k = false := by revert t; decide

theorem extendedByte2_top : (extendedByte2 t l).extractLsb' 5 3 = t := by revert t l; decide

theorem extendedByte2_low : (extendedByte2 t l).extractLsb' 0 2 = l := by revert t l; decide

theorem extendedByte2_fixed :
    (extendedByte2 t l).getLsbD 4 = false ∧ (extendedByte2 t l).getLsbD 3 = true ∧
      (extendedByte2 t l).getLsbD 2 = false := by revert t l; decide

end SecondByte

/-- EXIDE tells the width (R101, R102). -/
theorem exide_layoutId (id : BitVec 32) (ext : BitVec 1) :
    (layoutId id ext).h2.getLsbD 3 = (ext == 1) := by
  obtain rfl | rfl := bit_cases ext
  · exact standardByte2_zeros _ 3 (by decide)
  · obtain ⟨-, h3, -⟩ := extendedByte2_fixed (id.extractLsb' 18 3) (id.extractLsb' 16 2)
    exact h3

theorem getLsbD_extractLsb'_of_lt {w i n k : Nat} (x : BitVec w) (hk : k < n) :
    (x.extractLsb' i n).getLsbD k = x.getLsbD (k + i) := by
  simp [hk, Nat.add_comm]

/-- Equal slices have equal bits, each read off where its slice stands. -/
theorem getLsbD_of_slice_eq {w i j n k : Nat} {b : Byte} {x : BitVec w}
    (h : b.extractLsb' j n = x.extractLsb' i n) (hk : k < n) :
    b.getLsbD (k + j) = x.getLsbD (k + i) := by
  rw [← getLsbD_extractLsb'_of_lt b hk, h, getLsbD_extractLsb'_of_lt x hk]

/-- Settles O37: the bits of the standard layout's slices. -/
theorem packidStandardLayout : Obligations.PackidStandardLayout := by
  intro id s hid
  exact ⟨layoutId id 0, exec_packid_of_in_range ((idInRange_standard id).mpr hid) s,
    fun _ => getLsbD_extractLsb'_of_lt id, fun _ => getLsbD_of_slice_eq (standardByte2_top _),
    standardByte2_zeros _, rfl, rfl⟩

/-- Settles O38: the bits of the extended layout's slices. -/
theorem packidExtendedLayout : Obligations.PackidExtendedLayout := by
  intro id s hid
  obtain ⟨h4, h3, h2⟩ := extendedByte2_fixed (id.extractLsb' 18 3) (id.extractLsb' 16 2)
  exact ⟨layoutId id 1, exec_packid_of_in_range ((idInRange_extended id).mpr hid) s,
    fun _ => getLsbD_extractLsb'_of_lt id, fun _ => getLsbD_of_slice_eq (extendedByte2_top _ _),
    h4, h3, h2, fun _ => getLsbD_of_slice_eq (extendedByte2_low _ _),
    fun _ => getLsbD_extractLsb'_of_lt id, fun _ => getLsbD_extractLsb'_of_lt id⟩

/-! ## Reading an identifier (R104, R106) -/

/-- Settles O40: joining adds by place value, for each value of EXIDE. -/
theorem unpackidReadsTheIdentifier : Obligations.UnpackidReadsTheIdentifier := by
  intro h s
  have h1 := h.h1.isLt
  have h2 := h.h2.isLt
  refine ⟨(readId h).1, (readId h).2, exec_unpackid h s, fun hexide => ?_, fun hexide => ?_⟩
  · rw [readId_of_standard hexide]
    refine ⟨rfl, ?_⟩
    simp only [BitVec.toNat_setWidth, toNat_append_eq_add, BitVec.extractLsb'_toNat,
      Nat.shiftRight_eq_div_pow]
    omega
  · rw [readId_of_extended hexide]
    refine ⟨rfl, ?_⟩
    simp only [toNat_append_eq_add, BitVec.extractLsb'_toNat, Nat.shiftRight_eq_div_pow]
    omega

/-- The bytes of a standard identifier hold adjacent slices of its low 11 bits. -/
theorem readId_layoutId_standard (id : BitVec 32) :
    readId (layoutId id 0) = ((id.extractLsb' 0 11).setWidth 29, 0) := by
  rw [readId_of_standard (exide_layoutId id 0), layoutId_standard]
  dsimp only
  rw [standardByte2_top, BitVec.extractLsb'_append_extractLsb'_eq_extractLsb' (by rfl)]

/-- The bytes of an extended identifier hold adjacent slices of its low 29 bits. -/
theorem readId_layoutId_extended (id : BitVec 32) :
    readId (layoutId id 1) = (id.extractLsb' 0 29, 1) := by
  rw [readId_of_extended (exide_layoutId id 1), layoutId_extended]
  dsimp only
  rw [extendedByte2_top, extendedByte2_low]
  iterate 4 rw [BitVec.extractLsb'_append_extractLsb'_eq_extractLsb' (by rfl)]

/-- An identifier in range has no bit above those its bytes hold (R106). -/
theorem readId_layoutId {id : BitVec 32} {ext : BitVec 1} (h : idInRange id ext = true) :
    (readId (layoutId id ext)).1.toNat = id.toNat ∧ (readId (layoutId id ext)).2 = ext := by
  obtain rfl | rfl := bit_cases ext
  · rw [idInRange_standard] at h
    rw [readId_layoutId_standard]
    refine ⟨?_, rfl⟩
    simp only [BitVec.toNat_setWidth, BitVec.extractLsb'_toNat, Nat.shiftRight_zero]
    omega
  · rw [idInRange_extended] at h
    rw [readId_layoutId_extended]
    refine ⟨?_, rfl⟩
    simp only [BitVec.extractLsb'_toNat, Nat.shiftRight_zero]
    omega

/-- Settles O42: UNPACKID reads what PACKID laid out. -/
theorem unpackOfPackIsTheIdentifier : Obligations.UnpackOfPackIsTheIdentifier := by
  intro id ext s u h0 h1
  have hid := idInRange_of_le h0 h1
  exact ⟨_, _, exec_packid_of_in_range hid s, rfl, exec_unpackid _ u, rfl, readId_layoutId hid⟩

/-! ## Canonical header bytes (R107) -/

theorem standardByte2_of_byte (b : Byte) : standardByte2 (b.extractLsb' 5 3) = b &&& 0xE0 := by
  refine BitVec.eq_of_getLsbD_eq fun k hk => ?_
  simp only [standardByte2, BitVec.getLsbD_append]
  interval_cases k <;> simp

theorem extendedByte2_of_byte {b : Byte} (h : b.getLsbD 3 = true) :
    extendedByte2 (b.extractLsb' 5 3) (b.extractLsb' 0 2) = b &&& 0xEB := by
  refine BitVec.eq_of_getLsbD_eq fun k hk => ?_
  simp only [extendedByte2, BitVec.getLsbD_append]
  interval_cases k <;> simp [h]

theorem canonicalId_of_standard {h : IdBytes} (hexide : h.h2.getLsbD 3 = false) :
    canonicalId h = ⟨h.h1, h.h2 &&& 0xE0, 0, 0⟩ := by
  rw [canonicalId, extractLsb'_one_eq_ofBool, hexide]
  rfl

theorem canonicalId_of_extended {h : IdBytes} (hexide : h.h2.getLsbD 3 = true) :
    canonicalId h = ⟨h.h1, h.h2 &&& 0xEB, h.h3, h.h4⟩ := by
  rw [canonicalId, extractLsb'_one_eq_ofBool, hexide]
  rfl

theorem layoutId_of_joined_standard (a : Byte) (t : BitVec 3) :
    layoutId (((a ++ t).setWidth 29).setWidth 32) 0 = ⟨a, standardByte2 t, 0, 0⟩ := by
  rw [layoutId_standard]
  iterate 4 rw [BitVec.extractLsb'_setWidth_of_le (by decide)]
  rw [BitVec.extractLsb'_append_eq_left, BitVec.extractLsb'_append_eq_right]

/-- The five parts of an identifier are its five slices, since the slices join to the same vector. -/
theorem layoutId_of_joined_extended (a : Byte) (t : BitVec 3) (l : BitVec 2) (b c : Byte) :
    layoutId ((a ++ t ++ l ++ b ++ c).setWidth 32) 1 = ⟨a, extendedByte2 t l, b, c⟩ := by
  have joined (x : BitVec 29) : x.extractLsb' 21 8 ++ x.extractLsb' 18 3 ++ x.extractLsb' 16 2 ++
      x.extractLsb' 8 8 ++ x.extractLsb' 0 8 = x := by
    iterate 4 rw [BitVec.extractLsb'_append_extractLsb'_eq_extractLsb' (by rfl)]
    exact BitVec.extractLsb'_eq_self
  obtain ⟨heq, hc⟩ := append_inj (joined (a ++ t ++ l ++ b ++ c))
  obtain ⟨heq, hb⟩ := append_inj heq
  obtain ⟨heq, hl⟩ := append_inj heq
  obtain ⟨ha, ht⟩ := append_inj heq
  rw [layoutId_extended]
  iterate 5 rw [BitVec.extractLsb'_setWidth_of_le (by decide)]
  rw [ha, ht, hl, hb, hc]

/-- Laying out what was read clears every bit that was not read (R107). -/
theorem layoutId_readId (h : IdBytes) :
    layoutId ((readId h).1.setWidth 32) (readId h).2 = canonicalId h := by
  cases hexide : h.h2.getLsbD 3 with
  | false =>
    rw [readId_of_standard hexide, canonicalId_of_standard hexide, layoutId_of_joined_standard,
      standardByte2_of_byte]
  | true =>
    rw [readId_of_extended hexide, canonicalId_of_extended hexide, layoutId_of_joined_extended,
      extendedByte2_of_byte hexide]

/-- A standard identifier that was read has 11 bits. -/
theorem readId_standard_le {h : IdBytes} (hext : (readId h).2 = 0) : (readId h).1.toNat ≤ 0x7FF := by
  cases hexide : h.h2.getLsbD 3 with
  | false =>
    rw [readId_of_standard hexide]
    have hlt := (h.h1 ++ h.h2.extractLsb' 5 3).isLt
    simp only [BitVec.toNat_setWidth]
    omega
  | true => rw [readId_of_extended hexide] at hext; cases hext

theorem idInRange_readId (h : IdBytes) :
    idInRange ((readId h).1.setWidth 32) (readId h).2 = true := by
  have hlt := (readId h).1.isLt
  have hid : ((readId h).1.setWidth 32).toNat = (readId h).1.toNat := by
    rw [BitVec.toNat_setWidth]
    omega
  refine idInRange_of_le (fun h0 => ?_) fun _ => ?_
  · rw [hid]; exact readId_standard_le h0
  · rw [hid]; omega

/-- A mask leaves a vector alone exactly when every bit it clears was clear. -/
theorem and_eq_self_iff_bits {w : Nat} {x m : BitVec w} :
    x &&& m = x ↔ ∀ k < w, m.getLsbD k = false → x.getLsbD k = false := by
  constructor
  · intro h k _ hm
    rw [← h, BitVec.getLsbD_and, hm, Bool.and_false]
  · intro h
    refine BitVec.eq_of_getLsbD_eq fun k hk => ?_
    rw [BitVec.getLsbD_and]
    cases hm : m.getLsbD k with
    | false => rw [h k hk hm]; rfl
    | true => rw [Bool.and_true]

theorem and_not_of_and_eq_zero {w : Nat} {x m : BitVec w} (h : x &&& m = 0) : x &&& ~~~m = x := by
  rw [and_eq_self_iff_bits]
  intro k hk hm
  have hset : m.getLsbD k = true := by simpa [hk] using hm
  have hbit : (x.getLsbD k && m.getLsbD k) = false := by
    rw [← BitVec.getLsbD_and, h]; exact BitVec.getLsbD_zero
  rwa [hset, Bool.and_true] at hbit

/-- The eight bits of a byte, one by one. -/
theorem forall_bit_iff {P : Nat → Prop} :
    (∀ k < 8, P k) ↔ P 0 ∧ P 1 ∧ P 2 ∧ P 3 ∧ P 4 ∧ P 5 ∧ P 6 ∧ P 7 := by
  refine ⟨fun h => ⟨h 0 (by decide), h 1 (by decide), h 2 (by decide), h 3 (by decide),
    h 4 (by decide), h 5 (by decide), h 6 (by decide), h 7 (by decide)⟩, ?_⟩
  rintro ⟨h0, h1, h2, h3, h4, h5, h6, h7⟩ k hk
  interval_cases k <;> assumption

theorem and_E0_eq_self_iff (b : Byte) :
    b &&& 0xE0 = b ↔ b.getLsbD 0 = false ∧ b.getLsbD 1 = false ∧ b.getLsbD 2 = false ∧
      b.getLsbD 3 = false ∧ b.getLsbD 4 = false := by
  rw [and_eq_self_iff_bits, forall_bit_iff]
  simp

theorem and_EB_eq_self_iff (b : Byte) :
    b &&& 0xEB = b ↔ b.getLsbD 2 = false ∧ b.getLsbD 4 = false := by
  rw [and_eq_self_iff_bits, forall_bit_iff]
  simp

/-- Header bytes are canonical when every bit UNPACKID ignores is clear (R105, R107). -/
theorem canonicalId_eq_self_iff (h : IdBytes) :
    canonicalId h = h ↔ h.h2.getLsbD 4 = false ∧ h.h2.getLsbD 2 = false ∧
      (h.h2.getLsbD 3 = false →
        h.h2.getLsbD 1 = false ∧ h.h2.getLsbD 0 = false ∧ h.h3 = 0 ∧ h.h4 = 0) := by
  cases hexide : h.h2.getLsbD 3 with
  | false =>
    rw [canonicalId_of_standard hexide, IdBytes.ext_iff, and_E0_eq_self_iff]
    constructor
    · rintro ⟨-, ⟨b0, b1, b2, -, b4⟩, h3, h4⟩
      exact ⟨b4, b2, fun _ => ⟨b1, b0, h3.symm, h4.symm⟩⟩
    · rintro ⟨b4, b2, hrest⟩
      obtain ⟨b1, b0, h3, h4⟩ := hrest rfl
      exact ⟨rfl, ⟨b0, b1, b2, hexide, b4⟩, h3.symm, h4.symm⟩
  | true =>
    rw [canonicalId_of_extended hexide, IdBytes.ext_iff, and_EB_eq_self_iff]
    simp [and_comm]

/-- Settles O43: what was read is in range, and is laid out canonically. -/
theorem packOfUnpackIsCanonical : Obligations.PackOfUnpackIsCanonical := by
  intro h s u
  have hident := layoutId_readId h
  refine ⟨_, _, exec_unpackid h s, exec_packid_of_in_range (idInRange_readId h) u, rfl,
    fun hexide => hident.trans (canonicalId_of_standard hexide),
    fun hexide => hident.trans (canonicalId_of_extended hexide), ?_⟩
  rw [← canonicalId_eq_self_iff]
  exact iff_of_eq (congrArg (· = h) hident)

/-! ## The DLC byte, the count and the carried lanes (R121, R122, R127) -/

theorem dlcByte_toNat (rtr : BitVec 1) (dlc : BitVec 4) :
    (dlcByte rtr dlc).toNat = rtr.toNat * 2 ^ 6 + dlc.toNat := by
  revert rtr dlc; decide

theorem dlcByte_zeros (rtr : BitVec 1) (dlc : BitVec 4) : dlcByte rtr dlc &&& 0b10110000#8 = 0 := by
  revert rtr dlc; decide

@[simp] theorem rtrField_dlcByte (rtr : BitVec 1) (dlc : BitVec 4) :
    rtrField (dlcByte rtr dlc) = rtr := by
  revert rtr dlc; decide

theorem rtrField_eq_ofBool (h5 : Byte) : rtrField h5 = BitVec.ofBool (h5.getLsbD 6) :=
  extractLsb'_one_eq_ofBool h5 6

/-- Writing the fields that were read clears bits 7, 5 and 4 (R131). -/
theorem dlcByte_of_fields (h5 : Byte) : dlcByte (rtrField h5) (dlcField h5) = h5 &&& 0b01001111 := by
  refine BitVec.eq_of_getLsbD_eq fun k hk => ?_
  simp only [dlcByte, rtrField, dlcField, BitVec.getLsbD_append]
  interval_cases k <;> simp

/-- The count of an accepted frame fits its port. -/
theorem frameBytes_toNat {dlc : BitVec 4} (h : dlc.toNat ≤ 8) :
    (frameBytes dlc).toNat = 5 + dlc.toNat := by
  revert dlc; decide

theorem carriedLanes_agree (dlc : BitVec 4) (src : Payload) (free : Fin 8 → Byte) :
    AgreeBelow dlc.toNat (carriedLanes dlc src free) src := by
  intro i hi
  rw [lane_carriedLanes, if_pos hi]

theorem AgreeBelow.symm {n : Nat} {p q : Payload} (h : AgreeBelow n p q) : AgreeBelow n q p :=
  fun i hi => (h i hi).symm

theorem AgreeBelow.trans {n : Nat} {p q r : Payload} (h : AgreeBelow n p q) (h' : AgreeBelow n q r) :
    AgreeBelow n p r :=
  fun i hi => (h i hi).trans (h' i hi)

/-! ## The frame codec (R120 to R131) -/

/-- Settles O44: the completion of ENCODE in range, field by field. -/
theorem encodeWritesTheHeaderAndPayload : Obligations.EncodeWritesTheHeaderAndPayload := by
  intro id ext rtr dlc data s h0 h1 hdlc
  have hid := idInRange_of_le h0 h1
  exact ⟨_, exec_encode_of_in_range hid hdlc rtr data s, rfl,
    ⟨_, exec_packid_of_in_range hid s, rfl⟩, dlcByte_toNat rtr dlc, carriedLanes_agree dlc data _,
    frameBytes_toNat hdlc⟩

/-- Settles O45: past the identifier check, a long length is `DLC_RANGE`. -/
theorem encodeRejectsALongLength : Obligations.EncodeRejectsALongLength :=
  fun _ _ _ _ _ _ h0 h1 hdlc => exec_encode_of_long (idInRange_of_le h0 h1) hdlc _ _ _

/-- Settles O48: the completion of DECODE in range, field by field. -/
theorem decodeReadsTheFrame : Obligations.DecodeReadsTheFrame := by
  intro hdr pay s hdlc
  rw [← dlcField_toNat] at hdlc ⊢
  exact ⟨_, exec_decode_of_in_range hdlc pay s, rfl, ⟨_, exec_unpackid _ s, rfl, rfl⟩,
    by simp [rtrField_eq_ofBool], rfl, carriedLanes_agree _ pay _⟩

/-- Settles O51: each field of the frame is read from where ENCODE laid it. -/
theorem decodeOfEncodeIsTheFrame : Obligations.DecodeOfEncodeIsTheFrame := by
  intro id ext rtr dlc data s u h0 h1 hdlc
  have hid := idInRange_of_le h0 h1
  obtain ⟨hread, hext⟩ := readId_layoutId hid
  have hlength : dlcField (dlcByte rtr dlc) = dlc := dlcField_dlcByte rtr dlc
  have hlanes := carriedLanes_agree (dlcField (dlcByte rtr dlc))
    (carriedLanes dlc data s.freeLanes) u.freeLanes
  rw [hlength] at hlanes
  refine ⟨_, _, exec_encode_of_in_range hid hdlc rtr data s, rfl, exec_decode_of_in_range ?_ _ u,
    rfl, hread, hext, rtrField_dlcByte rtr dlc, hlength, ?_⟩
  · exact (congrArg BitVec.toNat hlength).trans_le hdlc
  · simpa using hlanes.trans (carriedLanes_agree dlc data _)

/-- Settles O52: what DECODE read is in range, and ENCODE lays it out with every unread bit clear. -/
theorem encodeOfDecodeIsCanonical : Obligations.EncodeOfDecodeIsCanonical := by
  intro hdr pay s u hdlc
  rw [← dlcField_toNat] at hdlc ⊢
  have hident := layoutId_readId hdr.ident
  have hh5 := dlcByte_of_fields hdr.h5
  exact ⟨_, _, exec_decode_of_in_range hdlc pay s, rfl,
    exec_encode_of_in_range (idInRange_readId hdr.ident) hdlc _ _ u, rfl, hh5,
    fun hexide => hident.trans (canonicalId_of_standard hexide),
    fun hexide => hident.trans (canonicalId_of_extended hexide),
    (carriedLanes_agree _ _ _).trans (carriedLanes_agree _ pay _), frameBytes_toNat hdlc,
    fun hclear hcanonical =>
      Header.ext (hident.trans hcanonical) (hh5.trans (and_not_of_and_eq_zero hclear))⟩

theorem status_iff_reported {i : Instr} {s t : State} (h : exec i s = .next t) (st : Status) :
    t.status = st.code ↔ reported i = st := by
  obtain ⟨hstatus, -⟩ := exec_completesWith h
  rw [hstatus, status_code_inj]

theorem reported_encode_eq_ok_iff {id : BitVec 32} {ext rtr : BitVec 1} {dlc : BitVec 4}
    {data : Payload} : reported (.encode id ext rtr dlc data) = .ok ↔
      idInRange id ext = true ∧ dlcInRange dlc = true := by
  simp [reported, ite_eq_iff]

theorem reported_decode_eq_ok_iff {hdr : Header} {pay : Payload} :
    reported (.decode hdr pay) = .ok ↔ dlcInRange (dlcField hdr.h5) = true := by
  simp [reported]

/-- Settles O47: `ID_RANGE` is the same check in both, and on `OK` both sides complete in range. -/
theorem frameCodecUsesTheIdentifierPacker : Obligations.FrameCodecUsesTheIdentifierPacker := by
  refine ⟨fun id ext rtr dlc data s u t v ht hv => ⟨?_, fun hok => ?_⟩,
    fun hdr pay s u t v ht hv hok => ?_⟩
  · have hsame : reported (.encode id ext rtr dlc data) = .idRange ↔
        reported (.packid id ext) = .idRange := by simp [reported, ite_eq_iff]
    exact (status_iff_reported hv .idRange).trans
      (hsame.trans (status_iff_reported ht .idRange).symm)
  · obtain ⟨hid, hdlc⟩ := reported_encode_eq_ok_iff.mp ((status_iff_reported hv .ok).mp hok)
    rw [exec_packid_of_in_range hid] at ht
    rw [exec_encode_of_in_range hid ((dlcInRange_iff dlc).mp hdlc)] at hv
    cases ht
    cases hv
    exact ⟨rfl, rfl⟩
  · have hdlc := reported_decode_eq_ok_iff.mp ((status_iff_reported hv .ok).mp hok)
    rw [exec_unpackid] at ht
    rw [exec_decode_of_in_range ((dlcInRange_iff _).mp hdlc)] at hv
    cases ht
    cases hv
    exact ⟨rfl, rfl⟩

/-- Settles O50: the fields DECODE reads are the same, and so is its length check. -/
theorem decodeIgnoresTheOtherBits : Obligations.DecodeIgnoresTheOtherBits := by
  intro h g p q s u t v h1 htop hexide hrest hdlc hrtr hpay ht hv
  have hread : readId h.ident = readId g.ident := readId_congr h1 htop hexide hrest
  have hlength : dlcField h.h5 = dlcField g.h5 := by
    rw [← BitVec.toNat_inj, dlcField_toNat, dlcField_toNat, hdlc]
  have hremote : rtrField h.h5 = rtrField g.h5 := by
    rw [rtrField_eq_ofBool, rtrField_eq_ofBool, hrtr]
  have hreported : reported (.decode h p) = reported (.decode g q) := by simp [reported, hlength]
  obtain ⟨htstatus, -⟩ := exec_completesWith ht
  obtain ⟨hvstatus, -⟩ := exec_completesWith hv
  refine ⟨by rw [htstatus, hvstatus, hreported], fun hok => ?_⟩
  have hfits := reported_decode_eq_ok_iff.mp ((status_iff_reported ht .ok).mp hok)
  have hle := (dlcInRange_iff _).mp hfits
  rw [exec_decode_of_in_range hle] at ht
  rw [exec_decode_of_in_range (hlength ▸ hle), ← hread, ← hlength, ← hremote] at hv
  rw [← dlcField_toNat] at hpay
  cases ht
  cases hv
  exact ⟨rfl, rfl, rfl, rfl,
    (carriedLanes_agree _ p _).trans (hpay.trans (carriedLanes_agree _ q _).symm)⟩

/-! ## The bit time and the segments (R82 to R89) -/

/-- Settles O27: each row computes. -/
theorem calcWorkedVectors : Obligations.CalcWorkedVectors :=
  fun _ => ⟨rfl, rfl, rfl, rfl, rfl⟩

/-- Settles O33: the table computes. -/
theorem segmentTableOfTheSpec : Obligations.SegmentTableOfTheSpec := rfl

theorem quantaAt_eq_some_iff {kbps osc brp bt : Nat} (hk : 0 < kbps) :
    quantaAt kbps osc brp = some bt ↔ 500 * osc = bt * ((brp + 1) * kbps) ∧ bt ≤ 25 := by
  refine ⟨fun h => (quantaAt_exact h).imp_left Eq.symm, ?_⟩
  rintro ⟨hexact, hle⟩
  have hpos : 0 < (brp + 1) * kbps := Nat.mul_pos (Nat.succ_pos brp) hk
  simp [quantaAt, hexact, Nat.mul_div_cancel _ hpos, hle]

theorem quantaAt_eq_none_iff {kbps osc brp : Nat} (hk : 0 < kbps) :
    quantaAt kbps osc brp = none ↔ ¬ ∃ q, 500 * osc = q * ((brp + 1) * kbps) ∧ q ≤ 25 := by
  simp only [Option.eq_none_iff_forall_ne_some, ne_eq, quantaAt_eq_some_iff hk, not_exists]

/-- The source's quotient of a bit by a quantum, with the denominators cleared (R83). -/
theorem bitTime_eq_iff {kbps osc brp bt : Nat} (hk : 0 < kbps) (ho : 0 < osc) :
    ((1000 : ℚ) / kbps) / (2 * ((brp : ℚ) + 1) / osc) = bt ↔
      500 * osc = bt * ((brp + 1) * kbps) := by
  have hk' : (kbps : ℚ) ≠ 0 := by positivity
  have ho' : (osc : ℚ) ≠ 0 := by positivity
  have hb : (brp : ℚ) + 1 ≠ 0 := by positivity
  rw [← Nat.cast_inj (R := ℚ)]
  push_cast
  field_simp
  constructor <;> intro h <;> linarith

/-- Settles O30: both sides say that the division leaves no remainder. -/
theorem bitTimeIsTheExactRational : Obligations.BitTimeIsTheExactRational :=
  fun _ _ _ _ hk ho => by rw [quantaAt_eq_some_iff hk, bitTime_eq_iff hk ho]

theorem samplePoint_eq_floor (bt : Nat) : samplePoint bt = ⌊(7 / 10 : ℚ) * bt⌋ := by
  have hfrac : (7 / 10 : ℚ) * bt = ((7 * bt : Int) : ℚ) / (10 : Nat) := by push_cast; ring
  rw [hfrac, Rat.floor_intCast_div_natCast]
  rfl

theorem half_eq_floor (n : Int) : (n - 1) / 2 = ⌊((n : ℚ) - 1) / 2⌋ := by
  have hfrac : ((n : ℚ) - 1) / 2 = ((n - 1 : Int) : ℚ) / (2 : Nat) := by push_cast; ring
  rw [hfrac, Rat.floor_intCast_div_natCast]
  rfl

theorem segmentsOf_sum (bt : Nat) :
    1 + (segmentsOf bt).prseg + (segmentsOf bt).phseg1 + (segmentsOf bt).phseg2 = bt := by
  dsimp only [segmentsOf]
  omega

theorem segmentsOf_nonneg {bt : Nat} (h : 2 ≤ bt) :
    0 ≤ (segmentsOf bt).prseg ∧ 0 ≤ (segmentsOf bt).phseg1 ∧ 0 ≤ (segmentsOf bt).phseg2 := by
  dsimp only [segmentsOf, samplePoint]
  omega

theorem segmentsOf_invalid_of_le_one {bt sjw : Nat} (hbt : bt ≤ 1) (hsjw : 1 ≤ sjw) :
    (segmentsOf bt).valid sjw = false := by
  rw [← Bool.not_eq_true, Segments.valid_iff]
  dsimp only [segmentsOf, samplePoint]
  omega

/-- Settles O32: integer division is the floor of the quotient, and at a bit time of at most 1 the sample
point is 0. -/
theorem segmentsAreTheFloorsOfTheSource : Obligations.SegmentsAreTheFloorsOfTheSource := by
  intro bt
  refine ⟨samplePoint_eq_floor bt, half_eq_floor _, rfl, rfl, fun hneg => ?_, fun hbt sjw hsjw => ?_⟩
  · by_contra hbt
    obtain ⟨hprseg, hphseg1, hphseg2⟩ := segmentsOf_nonneg (not_le.mp hbt)
    omega
  · have hspt : samplePoint bt = 0 := by dsimp only [samplePoint]; omega
    rw [hspt]
    refine ⟨segmentsOf_invalid_of_le_one hbt hsjw, rfl, rfl, ?_⟩
    rw [← Bool.not_eq_true, Segments.valid_iff]
    dsimp only
    omega

theorem judge_of_invalid {sjw bt : Nat} (h : (segmentsOf bt).valid sjw = false) (brp : Nat) :
    judge sjw brp bt = .raise .timingInfeasible := by
  simp [judge, h]

theorem judge_of_valid {sjw bt : Nat} (h : (segmentsOf bt).valid sjw = true) (brp : Nat) :
    judge sjw brp bt = .ok ⟨brp, segmentsOf bt, sjw, bt⟩ := if_pos h

theorem calcExact_of_zero {kbps osc : Nat} (h : kbps = 0 ∨ osc = 0) (sjwIn : Nat) :
    calcExact kbps osc sjwIn = .raise .timingInfeasible := if_pos h

/-- Settles O29: the guard answers zero inputs, and behind it a bit time of 0 would be judged invalid. -/
theorem zeroInputsAreInfeasible : Obligations.ZeroInputsAreInfeasible := by
  refine ⟨fun _ => calcExact_of_zero (.inl rfl), fun _ => calcExact_of_zero (.inr rfl),
    fun kbps hk => ?_, fun sjw => ?_⟩
  · rw [firstFit_eq_some_iff, quantaAt_eq_some_iff hk]
    exact ⟨by decide, by omega, nofun⟩
  · obtain ⟨hsjw, -⟩ := clampSjw_bounds sjw
    exact judge_of_invalid (segmentsOf_invalid_of_le_one (Nat.zero_le 1) hsjw) 0

/-- Settles O34: the segments add up to the bit time, and their lower bounds give that of the bit time. -/
theorem acceptedConfigurationsAreInBounds : Obligations.AcceptedConfigurationsAreInBounds := by
  intro kbps osc sjwIn c h
  obtain ⟨hbrp, hprseg, hphseg1, hphseg2, hsjw, hbt⟩ := calcExact_bounds h
  obtain ⟨-, hseg, -, hvalid⟩ := calcExact_accepts h
  have hsum := segmentsOf_sum c.bt
  rw [← hseg] at hsum
  exact ⟨hsum, hprseg, hphseg1, hphseg2, ⟨by omega, hbt⟩, hbrp, hsjw, Segments.valid_iff.mp hvalid⟩

/-! ## Stopping at the first prescaler (R90) -/

theorem segmentsOf_valid_iff_btMin {bt sjw : Nat} (hbt : bt ≤ 25) (h1 : 1 ≤ sjw) (h4 : sjw ≤ 4) :
    (segmentsOf bt).valid sjw = true ↔ btMin sjw ≤ bt := by
  rw [Segments.valid_iff]
  dsimp only [segmentsOf, samplePoint, btMin]
  interval_cases sjw <;> simp <;> omega

/-- Exact bit times fall as the prescaler grows. -/
theorem quantaAt_antitone {kbps osc brp brp' bt bt' : Nat} (hk : 0 < kbps) (hle : brp ≤ brp')
    (h : quantaAt kbps osc brp = some bt) (h' : quantaAt kbps osc brp' = some bt') : bt' ≤ bt := by
  obtain ⟨hexact, -⟩ := quantaAt_exact h
  obtain ⟨hexact', -⟩ := quantaAt_exact h'
  have hpos : 0 < (brp + 1) * kbps := Nat.mul_pos (Nat.succ_pos brp) hk
  refine Nat.le_of_mul_le_mul_right ?_ hpos
  calc bt' * ((brp + 1) * kbps) ≤ bt' * ((brp' + 1) * kbps) :=
        Nat.mul_le_mul_left _ (Nat.mul_le_mul_right _ (Nat.succ_le_succ hle))
    _ = bt * ((brp + 1) * kbps) := hexact'.trans hexact.symm

theorem calcExact_of_fit {kbps osc brp bt : Nat} (hk : 0 < kbps) (ho : 0 < osc)
    (hfit : firstFit kbps osc = some (brp, bt)) (sjwIn : Nat) :
    calcExact kbps osc sjwIn = judge (clampSjw sjwIn) brp bt := by
  simp [calcExact, hk.ne', ho.ne', hfit]

theorem calcExact_ok_iff (kbps osc sjwIn : Nat) :
    (∃ c, calcExact kbps osc sjwIn = .ok c) ↔ 0 < kbps ∧ 0 < osc ∧
      ∃ brp bt, firstFit kbps osc = some (brp, bt) ∧ btMin (clampSjw sjwIn) ≤ bt := by
  obtain ⟨h1, h4⟩ := clampSjw_bounds sjwIn
  have hvalid_iff {brp bt : Nat} (hfit : firstFit kbps osc = some (brp, bt)) :
      (segmentsOf bt).valid (clampSjw sjwIn) = true ↔ btMin (clampSjw sjwIn) ≤ bt := by
    obtain ⟨-, hquanta, -⟩ := firstFit_eq_some_iff.mp hfit
    obtain ⟨-, hbt⟩ := quantaAt_exact hquanta
    exact segmentsOf_valid_iff_btMin hbt h1 h4
  constructor
  · rintro ⟨c, h⟩
    obtain ⟨hfit, hseg, hsjw, hvalid⟩ := calcExact_accepts h
    have hnonzero : ¬ (kbps = 0 ∨ osc = 0) := fun hzero => by
      rw [calcExact_of_zero hzero] at h; cases h
    rw [hseg, hsjw, hvalid_iff hfit] at hvalid
    exact ⟨by omega, by omega, c.brp, c.bt, hfit, hvalid⟩
  · rintro ⟨hk, ho, brp, bt, hfit, hmin⟩
    exact ⟨_, (calcExact_of_fit hk ho hfit sjwIn).trans
      (judge_of_valid ((hvalid_iff hfit).mpr hmin) brp)⟩

/-- The search of `calcRetrying`: it passes over the prescalers whose segments fail (R90). -/
def retryingFit (kbps osc sjw : Nat) : Option (Nat × Nat) :=
  prescalers.findSome? (fun brp => (quantaAt kbps osc brp).bind (fun bt =>
    if (segmentsOf bt).valid sjw then some (brp, bt) else none))

theorem retryingFit_eq_some_iff {kbps osc sjw brp bt : Nat} :
    retryingFit kbps osc sjw = some (brp, bt) ↔ brp ≤ 7 ∧
      (quantaAt kbps osc brp).filter (fun q => (segmentsOf q).valid sjw) = some bt ∧
      ∀ b < brp, (quantaAt kbps osc b).filter (fun q => (segmentsOf q).valid sjw) = none := by
  have hsearch : retryingFit kbps osc sjw = (List.range 8).findSome? (fun b =>
      ((quantaAt kbps osc b).filter (fun q => (segmentsOf q).valid sjw)).map (b, ·)) := by
    rw [retryingFit, prescalers_eq_range]
    congr 1
    funext b
    cases quantaAt kbps osc b with
    | none => rfl
    | some q => cases hq : (segmentsOf q).valid sjw <;> simp [hq]
  rw [hsearch, findSome?_range_eq_some_iff, Nat.lt_succ_iff]

/-- A later prescaler has a smaller bit time, so it fails where an earlier one failed: the retrying
search finds nothing but the first fit, if that passes. -/
theorem retryingFit_eq_filter {kbps osc sjw : Nat} (hk : 0 < kbps) (h1 : 1 ≤ sjw) (h4 : sjw ≤ 4) :
    retryingFit kbps osc sjw =
      (firstFit kbps osc).filter (fun fit => (segmentsOf fit.2).valid sjw) := by
  ext ⟨brp, bt⟩
  rw [retryingFit_eq_some_iff, Option.filter_eq_some_iff, Option.filter_eq_some_iff,
    firstFit_eq_some_iff]
  constructor
  · rintro ⟨hbrp, ⟨hquanta, hvalid⟩, hnone⟩
    refine ⟨⟨hbrp, hquanta, fun b hb => Option.eq_none_iff_forall_ne_some.mpr fun q hq => ?_⟩, hvalid⟩
    obtain ⟨-, hq25⟩ := quantaAt_exact hq
    obtain ⟨-, hbt25⟩ := quantaAt_exact hquanta
    have hmin := (segmentsOf_valid_iff_btMin hbt25 h1 h4).mp hvalid
    have hle := quantaAt_antitone hk hb.le hq hquanta
    have hqvalid := (segmentsOf_valid_iff_btMin hq25 h1 h4).mpr (hmin.trans hle)
    simpa [hq, hqvalid] using hnone b hb
  · rintro ⟨⟨hbrp, hquanta, hnone⟩, hvalid⟩
    exact ⟨hbrp, ⟨hquanta, hvalid⟩, fun b hb => by rw [hnone b hb]; rfl⟩

theorem calcRetrying_eq_calcExact (kbps osc sjwIn : Nat) :
    calcRetrying kbps osc sjwIn = calcExact kbps osc sjwIn := by
  by_cases hzero : kbps = 0 ∨ osc = 0
  · rw [calcExact_of_zero hzero]
    exact if_pos hzero
  · obtain ⟨h1, h4⟩ := clampSjw_bounds sjwIn
    obtain ⟨hk, -⟩ := not_or.mp hzero
    have hfit := retryingFit_eq_filter (osc := osc) (Nat.pos_of_ne_zero hk) h1 h4
    unfold retryingFit at hfit
    rw [calcRetrying, calcExact, if_neg hzero, if_neg hzero, hfit]
    cases firstFit kbps osc with
    | none => rfl
    | some fit =>
      obtain ⟨brp, bt⟩ := fit
      rw [Option.filter_some]
      cases hvalid : (segmentsOf bt).valid (clampSjw sjwIn) with
      | false => simp only [judge, hvalid, Bool.false_eq_true, if_false]
      | true => simp only [judge, hvalid, if_true]

/-- Settles O35: `btMin` is the threshold of the checks, CALC judges the first fit alone, and no later
prescaler passes where the first failed. -/
theorem stoppingAtTheFirstPrescalerLosesNothing :
    Obligations.StoppingAtTheFirstPrescalerLosesNothing := by
  refine ⟨fun bt hbt sjw h1 h4 => ?_, fun kbps osc sjwIn => ?_, calcRetrying_eq_calcExact⟩
  · rw [segmentsOf_valid_iff_btMin hbt h1 h4]
    interval_cases sjw <;> rfl
  · rw [calcExact_ok_iff]
    refine and_congr_right fun hk => and_congr_right fun _ => exists₂_congr fun brp q => ?_
    simp only [firstFit_eq_some_iff, quantaAt_eq_some_iff hk, quantaAt_eq_none_iff hk]
    tauto

/-! ## Legal results -/

/-- What the invariant says of the elements that completions alone write: `status` is a code that the op
can report, and every result group is legal. -/
structure State.Legal (s : State) : Prop where
  status : ∃ st : Status, s.status = st.code ∧ st.PossibleFor s.rspOp
  timing : s.tr = TimingResult.reset ∨ s.tr.Valid
  header : s.hr.Legal
  frame : s.fr.Legal

theorem State.Inv.legal {s : State} (h : s.Inv) : s.Legal := ⟨h.status, h.timing, h.header, h.frame⟩

theorem State.Legal.of_same_results {s t : State} (h : s.Legal) (hstatus : t.status = s.status)
    (hop : t.rspOp = s.rspOp) (htr : t.tr = s.tr) (hhr : t.hr = s.hr) (hfr : t.fr = s.fr) :
    t.Legal where
  status := by rw [hstatus, hop]; exact h.status
  timing := by rw [htr]; exact h.timing
  header := by rw [hhr]; exact h.header
  frame := by rw [hfr]; exact h.frame

theorem legal_reset : State.reset.Legal where
  status := ⟨.ok, rfl, (by decide : (0 : BitVec 3).toNat ≤ 4)⟩
  timing := .inl rfl
  header := ⟨rfl, .inl ⟨rfl, rfl⟩⟩
  frame := ⟨fun _ => by decide, by decide⟩

theorem inv_of_idle {s : State} (hlegal : s.Legal) (hl : s.live = true) (hb : s.busy = false)
    (hw : s.wait = 0) : s.Inv where
  live := hl
  busy_wait := fun h => by rw [hb] at h; cases h
  idle_wait := fun _ => hw
  busy_hides := fun h => by rw [hb] at h; cases h
  status := hlegal.status
  timing := hlegal.timing
  header := hlegal.header
  frame := hlegal.frame

theorem inv_of_busy {s : State} (hlegal : s.Legal) (hl : s.live = true) (hb : s.busy = true)
    (hw : 1 ≤ s.wait ∧ s.wait ≤ Config.maxLatency) (hv : s.rspValid = false) : s.Inv where
  live := hl
  busy_wait := fun _ => hw
  idle_wait := fun h => by rw [hb] at h; cases h
  busy_hides := fun _ => hv
  status := hlegal.status
  timing := hlegal.timing
  header := hlegal.header
  frame := hlegal.frame

/-- Settles O24: the reset state is idle, and its results are legal. -/
theorem invariantHoldsAtReset : Obligations.InvariantHoldsAtReset :=
  inv_of_idle legal_reset rfl rfl rfl

/-! ## What the commands write is legal -/

/-- R151: each command reports a status of its own row. -/
theorem reported_possible (i : Instr) : (reported i).PossibleFor i.op := by
  cases i with
  | calcTiming kbps osc sjw =>
    obtain h | h := calcExact_status kbps.toNat osc.toNat sjw.toNat <;> rw [reported, h]
    · show opCalc.toNat ≤ 4; decide
    · rfl
  | packid id ext =>
    rw [reported]; split
    · show opPackid.toNat ≤ 4; decide
    · exact .inl rfl
  | unpackid hdr => show opUnpackid.toNat ≤ 4; decide
  | encode id ext rtr dlc data =>
    rw [reported]; split
    · split
      · show opEncode.toNat ≤ 4; decide
      · exact .inl rfl
    · exact .inr rfl
  | decode hdr pay =>
    rw [reported]; split
    · show opDecode.toNat ≤ 4; decide
    · exact .inr rfl
  | rsvd101 => show 5 ≤ opRsvd101.toNat; decide
  | rsvd11x x => show 5 ≤ (opRsvd11x x).toNat; revert x; decide

/-- R87 holds of the ports of TR, since nothing is lost in narrowing (R88). -/
theorem narrow_valid {kbps osc sjwIn : Nat} {c : TimingConfig} (h : calcExact kbps osc sjwIn = .ok c) :
    c.narrow.Valid := by
  obtain ⟨hsum, hprseg, hphseg1, hphseg2, hbt, -, hsjw, hcheck1, hcheck2⟩ :=
    acceptedConfigurationsAreInBounds kbps osc sjwIn c h
  obtain ⟨-, cprseg, cphseg1, cphseg2, csjw, cbt⟩ := narrow_counts h
  rw [TimingResult.Valid]
  omega

theorem timingOf_valid {kbps : BitVec 16} {osc sjw : BitVec 8} {r : TimingResult}
    (h : timingOf kbps osc sjw = .ok r) : r.Valid := by
  obtain ⟨c, hcalc, htiming⟩ | ⟨-, htiming⟩ := timingOf_cases kbps osc sjw <;>
    rw [htiming] at h <;> cases h
  exact narrow_valid hcalc

theorem canonicalId_layoutId (id : BitVec 32) (ext : BitVec 1) : CanonicalId (layoutId id ext) := by
  rw [CanonicalId, canonicalId_eq_self_iff]
  obtain rfl | rfl := bit_cases ext
  · have hzeros := standardByte2_zeros (id.extractLsb' 0 3)
    exact ⟨hzeros 4 (by decide), hzeros 2 (by decide), fun _ =>
      ⟨hzeros 1 (by decide), hzeros 0 (by decide), rfl, rfl⟩⟩
  · obtain ⟨h4, h3, h2⟩ := extendedByte2_fixed (id.extractLsb' 18 3) (id.extractLsb' 16 2)
    exact ⟨h4, h2, fun hclear => absurd (h3.symm.trans hclear) (by decide)⟩

theorem packId_canonical {id : BitVec 32} {ext : BitVec 1} {b : IdBytes}
    (h : packId id ext = .ok b) : CanonicalId b := by
  obtain ⟨-, hpack⟩ | ⟨-, hpack⟩ := packId_cases id ext <;> rw [hpack] at h <;> cases h
  exact canonicalId_layoutId id ext

theorem encodedHeader_legal (id : BitVec 32) (ext rtr : BitVec 1) {dlc : BitVec 4}
    (hdlc : dlc.toNat ≤ 8) (pay : Payload) :
    HeaderResult.Legal ⟨⟨layoutId id ext, dlcByte rtr dlc⟩, pay, frameBytes dlc⟩ := by
  have hlength : dlcField (dlcByte rtr dlc) = dlc := dlcField_dlcByte rtr dlc
  refine ⟨canonicalId_layoutId id ext, .inr ⟨dlcByte_zeros rtr dlc, ?_, ?_⟩⟩ <;> simp only [hlength]
  · exact hdlc
  · exact frameBytes_toNat hdlc

theorem encodeFrame_legal {id : BitVec 32} {ext rtr : BitVec 1} {dlc : BitVec 4} {data : Payload}
    {free : Fin 8 → Byte} {r : HeaderResult} (h : encodeFrame id ext rtr dlc data free = .ok r) :
    r.Legal := by
  obtain ⟨-, hdlc, henc⟩ | ⟨-, henc⟩ | ⟨-, -, henc⟩ :=
    encodeFrame_cases id ext rtr dlc data free <;> rw [henc] at h <;> cases h
  exact encodedHeader_legal id ext rtr ((dlcInRange_iff dlc).mp hdlc) _

theorem decodeFrame_legal {hdr : Header} {pay : Payload} {free : Fin 8 → Byte} {r : FrameResult}
    (h : decodeFrame hdr pay free = .ok r) : r.Legal := by
  obtain ⟨hdlc, hdec⟩ | ⟨-, hdec⟩ := decodeFrame_cases hdr pay free <;> rw [hdec] at h <;> cases h
  exact ⟨readId_standard_le, (dlcInRange_iff _).mp hdlc⟩

/-! ## Every step keeps the invariant -/

section KeepsLegal

variable {s : State} (h : s.Legal)
include h

theorem legal_complete {op : BitVec 3} {st : Status} (hst : st.PossibleFor op) :
    (s.complete op st).Legal := ⟨⟨st, rfl, hst⟩, h.timing, h.header, h.frame⟩

theorem legal_writeTiming {r : TimingResult} (hr : r.Valid) : (s.writeTiming r).Legal :=
  ⟨h.status, .inr hr, h.header, h.frame⟩

theorem legal_writeIdBytes {b : IdBytes} (hb : CanonicalId b) : (s.writeIdBytes b).Legal := by
  obtain ⟨-, hcount⟩ := h.header
  exact ⟨h.status, h.timing, ⟨hb, hcount⟩, h.frame⟩

theorem legal_writeIdent (b : IdBytes) : (s.writeIdent (readId b)).Legal := by
  obtain ⟨-, hlength⟩ := h.frame
  exact ⟨h.status, h.timing, h.header, readId_standard_le, hlength⟩

theorem legal_writeHeader {r : HeaderResult} (hr : r.Legal) : (s.writeHeader r).Legal :=
  ⟨h.status, h.timing, hr, h.frame⟩

theorem legal_writeFrame {r : FrameResult} (hr : r.Legal) : (s.writeFrame r).Legal :=
  ⟨h.status, h.timing, h.header, hr⟩

theorem legal_conclude {α : Type} {op : BitVec 3} {r : Reply α} {write : α → State → State}
    (hstatus : r.status.PossibleFor op)
    (hwrite : ∀ res, r = .ok res → ∀ u : State, u.Legal → (write res u).Legal) :
    (conclude op r write s).Legal := by
  cases r with
  | ok res => exact hwrite res rfl _ (legal_complete h hstatus)
  | raise st => exact legal_complete h hstatus

theorem exec_keeps_legal {i : Instr} {t : State} (hexec : exec i s = .next t) : t.Legal := by
  have hpossible := reported_possible i
  cases i with
  | calcTiming kbps osc sjw =>
    rw [← timingOf_status] at hpossible
    cases hexec
    exact legal_conclude h hpossible fun _ hr _ hu => legal_writeTiming hu (timingOf_valid hr)
  | packid id ext =>
    rw [← packId_status] at hpossible
    cases hexec
    exact legal_conclude h hpossible fun _ hr _ hu => legal_writeIdBytes hu (packId_canonical hr)
  | unpackid hdr =>
    cases hexec
    exact legal_writeIdent (legal_complete h hpossible) hdr
  | encode id ext rtr dlc data =>
    rw [← encodeFrame_status id ext rtr dlc data s.freeLanes] at hpossible
    cases hexec
    exact legal_conclude h hpossible fun _ hr _ hu => legal_writeHeader hu (encodeFrame_legal hr)
  | decode hdr pay =>
    rw [← decodeFrame_status hdr pay s.freeLanes] at hpossible
    cases hexec
    exact legal_conclude h hpossible fun _ hr _ hu => legal_writeFrame hu (decodeFrame_legal hr)
  | rsvd101 => cases hexec; exact legal_complete h hpossible
  | rsvd11x x => cases hexec; exact legal_complete h hpossible

end KeepsLegal

/-- Settles O25, by the cases of a step: only a reset and a completion write results, and only the
handshake and the count change at the other edges. -/
theorem everyStepKeepsTheInvariant : Obligations.EveryStepKeepsTheInvariant := by
  intro s t hinv hstep
  have hlegal := hinv.legal
  obtain ⟨-, rfl⟩ | ⟨-, hl, hb, hw, rfl⟩ | ⟨-, hl, hb, -, hexec⟩ | ⟨-, hl, -, -, rfl⟩ |
    ⟨-, hl, hb, -, rfl⟩ := step_cases hstep
  · exact inv_of_idle (legal_reset.of_same_results rfl rfl rfl rfl rfl) rfl rfl rfl
  · obtain ⟨-, hmax⟩ := hinv.busy_wait hb
    refine inv_of_busy (hlegal.of_same_results rfl rfl rfl rfl rfl) hl hb ?_ (hinv.busy_hides hb)
    rw [State.countDown_wait, State.tick_wait]
    omega
  · obtain ⟨hbusy, -, hwait, -⟩ := exec_handshake hexec
    obtain ⟨-, -, -, hlive⟩ := exec_keeps_rest hexec
    have htick : s.tick.Legal := hlegal.of_same_results rfl rfl rfl rfl rfl
    exact inv_of_idle (exec_keeps_legal htick hexec) (hlive.trans hl) hbusy hwait
  · exact inv_of_busy (hlegal.of_same_results rfl rfl rfl rfl rfl) hl rfl
      ⟨latencyDraw_pos _, latencyDraw_le _⟩ rfl
  · exact inv_of_idle (hlegal.of_same_results rfl rfl rfl rfl rfl) hl hb (hinv.idle_wait hb)

end Sys2Proof.Machine
end
